-- ==== Sys2Proof/Word.lean ====
section
/-!
DEFINITION. The word types of the block: a byte (8 bits) and a 16-bit operand value (00_scope.md R7, R8).
Every value is unsigned (R8).
-/

namespace Sys2Proof

/-- A byte: an opcode, an operand byte, a port number, a half of a 16-bit operand (00_scope.md R7). -/
abbrev Byte := BitVec 8

/-- A 16-bit operand value, `d16` or `a16` (00_scope.md R7). -/
abbrev Word16 := BitVec 16

end Sys2Proof
end

