-- ==== Sys2Proof/Syntax.lean ====
section
/-!
DEFINITION. The instructions: one constructor for each of the 256 rows of spec/opcode_table.json (30_encoding.md R78),
so that each second byte value of NOP, JMP, RET and CALL (R79) is a constructor of its own, named with its opcode
(log 14). The rows with operand bytes stand first: Lean compiles a constructor with fields only among the first 244.
Format I1 (R71) carries nothing, format I2 (R72) carries byte 2, format I3 (R73) carries byte 2 and byte 3.
-/

namespace Sys2Proof

/-- An instruction as the block reads it: the row of its opcode byte, and its operand bytes (30_encoding.md R70 to R74). -/
inductive Instr
  /-- 0x01, `LXI B, d16`, 41_data_transfer.md R145. -/
  | lxiB (b2 b3 : Byte)
  /-- 0x11, `LXI D, d16`, 41_data_transfer.md R145. -/
  | lxiD (b2 b3 : Byte)
  /-- 0x21, `LXI H, d16`, 41_data_transfer.md R145. -/
  | lxiH (b2 b3 : Byte)
  /-- 0x22, `SHLD a16`, 41_data_transfer.md R150. -/
  | shld (b2 b3 : Byte)
  /-- 0x2A, `LHLD a16`, 41_data_transfer.md R149. -/
  | lhld (b2 b3 : Byte)
  /-- 0x31, `LXI SP, d16`, 41_data_transfer.md R146. -/
  | lxiSP (b2 b3 : Byte)
  /-- 0x32, `STA a16`, 41_data_transfer.md R148. -/
  | sta (b2 b3 : Byte)
  /-- 0x3A, `LDA a16`, 41_data_transfer.md R147. -/
  | lda (b2 b3 : Byte)
  /-- 0xC2, `JNZ a16`, 44_branch.md R221. -/
  | jnz (b2 b3 : Byte)
  /-- 0xC3, `JMP a16`, 44_branch.md R220. -/
  | jmpC3 (b2 b3 : Byte)
  /-- 0xC4, `CNZ a16`, 44_branch.md R223. -/
  | cnz (b2 b3 : Byte)
  /-- 0xCA, `JZ a16`, 44_branch.md R221. -/
  | jz (b2 b3 : Byte)
  /-- 0xCB, `JMP a16`, second byte value of 0xC3, 44_branch.md R220. -/
  | jmpCB (b2 b3 : Byte)
  /-- 0xCC, `CZ a16`, 44_branch.md R223. -/
  | cz (b2 b3 : Byte)
  /-- 0xCD, `CALL a16`, 44_branch.md R222. -/
  | callCD (b2 b3 : Byte)
  /-- 0xD2, `JNC a16`, 44_branch.md R221. -/
  | jnc (b2 b3 : Byte)
  /-- 0xD4, `CNC a16`, 44_branch.md R223. -/
  | cnc (b2 b3 : Byte)
  /-- 0xDA, `JC a16`, 44_branch.md R221. -/
  | jc (b2 b3 : Byte)
  /-- 0xDC, `CC a16`, 44_branch.md R223. -/
  | cc (b2 b3 : Byte)
  /-- 0xDD, `CALL a16`, second byte value of 0xCD, 44_branch.md R222. -/
  | callDD (b2 b3 : Byte)
  /-- 0xE2, `JPO a16`, 44_branch.md R221. -/
  | jpo (b2 b3 : Byte)
  /-- 0xE4, `CPO a16`, 44_branch.md R223. -/
  | cpo (b2 b3 : Byte)
  /-- 0xEA, `JPE a16`, 44_branch.md R221. -/
  | jpe (b2 b3 : Byte)
  /-- 0xEC, `CPE a16`, 44_branch.md R223. -/
  | cpe (b2 b3 : Byte)
  /-- 0xED, `CALL a16`, second byte value of 0xCD, 44_branch.md R222. -/
  | callED (b2 b3 : Byte)
  /-- 0xF2, `JP a16`, 44_branch.md R221. -/
  | jp (b2 b3 : Byte)
  /-- 0xF4, `CP a16`, 44_branch.md R223. -/
  | cp (b2 b3 : Byte)
  /-- 0xFA, `JM a16`, 44_branch.md R221. -/
  | jm (b2 b3 : Byte)
  /-- 0xFC, `CM a16`, 44_branch.md R223. -/
  | cm (b2 b3 : Byte)
  /-- 0xFD, `CALL a16`, second byte value of 0xCD, 44_branch.md R222. -/
  | callFD (b2 b3 : Byte)
  /-- 0x06, `MVI B, d8`, 41_data_transfer.md R143. -/
  | mviB (b2 : Byte)
  /-- 0x0E, `MVI C, d8`, 41_data_transfer.md R143. -/
  | mviC (b2 : Byte)
  /-- 0x16, `MVI D, d8`, 41_data_transfer.md R143. -/
  | mviD (b2 : Byte)
  /-- 0x1E, `MVI E, d8`, 41_data_transfer.md R143. -/
  | mviE (b2 : Byte)
  /-- 0x26, `MVI H, d8`, 41_data_transfer.md R143. -/
  | mviH (b2 : Byte)
  /-- 0x2E, `MVI L, d8`, 41_data_transfer.md R143. -/
  | mviL (b2 : Byte)
  /-- 0x36, `MVI M, d8`, 41_data_transfer.md R144. -/
  | mviM (b2 : Byte)
  /-- 0x3E, `MVI A, d8`, 41_data_transfer.md R143. -/
  | mviA (b2 : Byte)
  /-- 0xC6, `ADI d8`, 42_arithmetic.md R162. -/
  | adi (b2 : Byte)
  /-- 0xCE, `ACI d8`, 42_arithmetic.md R165. -/
  | aci (b2 : Byte)
  /-- 0xD3, `OUT d8`, 45_stack_io_control.md R247. -/
  | outPort (b2 : Byte)
  /-- 0xD6, `SUI d8`, 42_arithmetic.md R168. -/
  | sui (b2 : Byte)
  /-- 0xDB, `IN d8`, 45_stack_io_control.md R246. -/
  | inPort (b2 : Byte)
  /-- 0xDE, `SBI d8`, 42_arithmetic.md R171. -/
  | sbi (b2 : Byte)
  /-- 0xE6, `ANI d8`, 43_logical.md R192. -/
  | ani (b2 : Byte)
  /-- 0xEE, `XRI d8`, 43_logical.md R195. -/
  | xri (b2 : Byte)
  /-- 0xF6, `ORI d8`, 43_logical.md R198. -/
  | ori (b2 : Byte)
  /-- 0xFE, `CPI d8`, 43_logical.md R201. -/
  | cpi (b2 : Byte)
  /-- 0x00, `NOP`, 45_stack_io_control.md R251. -/
  | nop00
  /-- 0x02, `STAX B`, 41_data_transfer.md R152. -/
  | staxB
  /-- 0x03, `INX B`, 42_arithmetic.md R176. -/
  | inxB
  /-- 0x04, `INR B`, 42_arithmetic.md R172. -/
  | inrB
  /-- 0x05, `DCR B`, 42_arithmetic.md R174. -/
  | dcrB
  /-- 0x07, `RLC`, 43_logical.md R202. -/
  | rlc
  /-- 0x08, `NOP`, second byte value of 0x00, 45_stack_io_control.md R251. -/
  | nop08
  /-- 0x09, `DAD B`, 42_arithmetic.md R180. -/
  | dadB
  /-- 0x0A, `LDAX B`, 41_data_transfer.md R151. -/
  | ldaxB
  /-- 0x0B, `DCX B`, 42_arithmetic.md R178. -/
  | dcxB
  /-- 0x0C, `INR C`, 42_arithmetic.md R172. -/
  | inrC
  /-- 0x0D, `DCR C`, 42_arithmetic.md R174. -/
  | dcrC
  /-- 0x0F, `RRC`, 43_logical.md R203. -/
  | rrc
  /-- 0x10, `NOP`, second byte value of 0x00, 45_stack_io_control.md R251. -/
  | nop10
  /-- 0x12, `STAX D`, 41_data_transfer.md R152. -/
  | staxD
  /-- 0x13, `INX D`, 42_arithmetic.md R176. -/
  | inxD
  /-- 0x14, `INR D`, 42_arithmetic.md R172. -/
  | inrD
  /-- 0x15, `DCR D`, 42_arithmetic.md R174. -/
  | dcrD
  /-- 0x17, `RAL`, 43_logical.md R204. -/
  | ral
  /-- 0x18, `NOP`, second byte value of 0x00, 45_stack_io_control.md R251. -/
  | nop18
  /-- 0x19, `DAD D`, 42_arithmetic.md R180. -/
  | dadD
  /-- 0x1A, `LDAX D`, 41_data_transfer.md R151. -/
  | ldaxD
  /-- 0x1B, `DCX D`, 42_arithmetic.md R178. -/
  | dcxD
  /-- 0x1C, `INR E`, 42_arithmetic.md R172. -/
  | inrE
  /-- 0x1D, `DCR E`, 42_arithmetic.md R174. -/
  | dcrE
  /-- 0x1F, `RAR`, 43_logical.md R205. -/
  | rar
  /-- 0x20, `NOP`, second byte value of 0x00, 45_stack_io_control.md R251. -/
  | nop20
  /-- 0x23, `INX H`, 42_arithmetic.md R176. -/
  | inxH
  /-- 0x24, `INR H`, 42_arithmetic.md R172. -/
  | inrH
  /-- 0x25, `DCR H`, 42_arithmetic.md R174. -/
  | dcrH
  /-- 0x27, `DAA`, 42_arithmetic.md R182. -/
  | daa
  /-- 0x28, `NOP`, second byte value of 0x00, 45_stack_io_control.md R251. -/
  | nop28
  /-- 0x29, `DAD H`, 42_arithmetic.md R180. -/
  | dadH
  /-- 0x2B, `DCX H`, 42_arithmetic.md R178. -/
  | dcxH
  /-- 0x2C, `INR L`, 42_arithmetic.md R172. -/
  | inrL
  /-- 0x2D, `DCR L`, 42_arithmetic.md R174. -/
  | dcrL
  /-- 0x2F, `CMA`, 43_logical.md R206. -/
  | cma
  /-- 0x30, `NOP`, second byte value of 0x00, 45_stack_io_control.md R251. -/
  | nop30
  /-- 0x33, `INX SP`, 42_arithmetic.md R177. -/
  | inxSP
  /-- 0x34, `INR M`, 42_arithmetic.md R173. -/
  | inrM
  /-- 0x35, `DCR M`, 42_arithmetic.md R175. -/
  | dcrM
  /-- 0x37, `STC`, 43_logical.md R208. -/
  | stc
  /-- 0x38, `NOP`, second byte value of 0x00, 45_stack_io_control.md R251. -/
  | nop38
  /-- 0x39, `DAD SP`, 42_arithmetic.md R181. -/
  | dadSP
  /-- 0x3B, `DCX SP`, 42_arithmetic.md R179. -/
  | dcxSP
  /-- 0x3C, `INR A`, 42_arithmetic.md R172. -/
  | inrA
  /-- 0x3D, `DCR A`, 42_arithmetic.md R174. -/
  | dcrA
  /-- 0x3F, `CMC`, 43_logical.md R207. -/
  | cmc
  /-- 0x40, `MOV B, B`, 41_data_transfer.md R140. -/
  | movBB
  /-- 0x41, `MOV B, C`, 41_data_transfer.md R140. -/
  | movBC
  /-- 0x42, `MOV B, D`, 41_data_transfer.md R140. -/
  | movBD
  /-- 0x43, `MOV B, E`, 41_data_transfer.md R140. -/
  | movBE
  /-- 0x44, `MOV B, H`, 41_data_transfer.md R140. -/
  | movBH
  /-- 0x45, `MOV B, L`, 41_data_transfer.md R140. -/
  | movBL
  /-- 0x46, `MOV B, M`, 41_data_transfer.md R141. -/
  | movBM
  /-- 0x47, `MOV B, A`, 41_data_transfer.md R140. -/
  | movBA
  /-- 0x48, `MOV C, B`, 41_data_transfer.md R140. -/
  | movCB
  /-- 0x49, `MOV C, C`, 41_data_transfer.md R140. -/
  | movCC
  /-- 0x4A, `MOV C, D`, 41_data_transfer.md R140. -/
  | movCD
  /-- 0x4B, `MOV C, E`, 41_data_transfer.md R140. -/
  | movCE
  /-- 0x4C, `MOV C, H`, 41_data_transfer.md R140. -/
  | movCH
  /-- 0x4D, `MOV C, L`, 41_data_transfer.md R140. -/
  | movCL
  /-- 0x4E, `MOV C, M`, 41_data_transfer.md R141. -/
  | movCM
  /-- 0x4F, `MOV C, A`, 41_data_transfer.md R140. -/
  | movCA
  /-- 0x50, `MOV D, B`, 41_data_transfer.md R140. -/
  | movDB
  /-- 0x51, `MOV D, C`, 41_data_transfer.md R140. -/
  | movDC
  /-- 0x52, `MOV D, D`, 41_data_transfer.md R140. -/
  | movDD
  /-- 0x53, `MOV D, E`, 41_data_transfer.md R140. -/
  | movDE
  /-- 0x54, `MOV D, H`, 41_data_transfer.md R140. -/
  | movDH
  /-- 0x55, `MOV D, L`, 41_data_transfer.md R140. -/
  | movDL
  /-- 0x56, `MOV D, M`, 41_data_transfer.md R141. -/
  | movDM
  /-- 0x57, `MOV D, A`, 41_data_transfer.md R140. -/
  | movDA
  /-- 0x58, `MOV E, B`, 41_data_transfer.md R140. -/
  | movEB
  /-- 0x59, `MOV E, C`, 41_data_transfer.md R140. -/
  | movEC
  /-- 0x5A, `MOV E, D`, 41_data_transfer.md R140. -/
  | movED
  /-- 0x5B, `MOV E, E`, 41_data_transfer.md R140. -/
  | movEE
  /-- 0x5C, `MOV E, H`, 41_data_transfer.md R140. -/
  | movEH
  /-- 0x5D, `MOV E, L`, 41_data_transfer.md R140. -/
  | movEL
  /-- 0x5E, `MOV E, M`, 41_data_transfer.md R141. -/
  | movEM
  /-- 0x5F, `MOV E, A`, 41_data_transfer.md R140. -/
  | movEA
  /-- 0x60, `MOV H, B`, 41_data_transfer.md R140. -/
  | movHB
  /-- 0x61, `MOV H, C`, 41_data_transfer.md R140. -/
  | movHC
  /-- 0x62, `MOV H, D`, 41_data_transfer.md R140. -/
  | movHD
  /-- 0x63, `MOV H, E`, 41_data_transfer.md R140. -/
  | movHE
  /-- 0x64, `MOV H, H`, 41_data_transfer.md R140. -/
  | movHH
  /-- 0x65, `MOV H, L`, 41_data_transfer.md R140. -/
  | movHL
  /-- 0x66, `MOV H, M`, 41_data_transfer.md R141. -/
  | movHM
  /-- 0x67, `MOV H, A`, 41_data_transfer.md R140. -/
  | movHA
  /-- 0x68, `MOV L, B`, 41_data_transfer.md R140. -/
  | movLB
  /-- 0x69, `MOV L, C`, 41_data_transfer.md R140. -/
  | movLC
  /-- 0x6A, `MOV L, D`, 41_data_transfer.md R140. -/
  | movLD
  /-- 0x6B, `MOV L, E`, 41_data_transfer.md R140. -/
  | movLE
  /-- 0x6C, `MOV L, H`, 41_data_transfer.md R140. -/
  | movLH
  /-- 0x6D, `MOV L, L`, 41_data_transfer.md R140. -/
  | movLL
  /-- 0x6E, `MOV L, M`, 41_data_transfer.md R141. -/
  | movLM
  /-- 0x6F, `MOV L, A`, 41_data_transfer.md R140. -/
  | movLA
  /-- 0x70, `MOV M, B`, 41_data_transfer.md R142. -/
  | movMB
  /-- 0x71, `MOV M, C`, 41_data_transfer.md R142. -/
  | movMC
  /-- 0x72, `MOV M, D`, 41_data_transfer.md R142. -/
  | movMD
  /-- 0x73, `MOV M, E`, 41_data_transfer.md R142. -/
  | movME
  /-- 0x74, `MOV M, H`, 41_data_transfer.md R142. -/
  | movMH
  /-- 0x75, `MOV M, L`, 41_data_transfer.md R142. -/
  | movML
  /-- 0x76, `HLT`, 45_stack_io_control.md R250. -/
  | hlt
  /-- 0x77, `MOV M, A`, 41_data_transfer.md R142. -/
  | movMA
  /-- 0x78, `MOV A, B`, 41_data_transfer.md R140. -/
  | movAB
  /-- 0x79, `MOV A, C`, 41_data_transfer.md R140. -/
  | movAC
  /-- 0x7A, `MOV A, D`, 41_data_transfer.md R140. -/
  | movAD
  /-- 0x7B, `MOV A, E`, 41_data_transfer.md R140. -/
  | movAE
  /-- 0x7C, `MOV A, H`, 41_data_transfer.md R140. -/
  | movAH
  /-- 0x7D, `MOV A, L`, 41_data_transfer.md R140. -/
  | movAL
  /-- 0x7E, `MOV A, M`, 41_data_transfer.md R141. -/
  | movAM
  /-- 0x7F, `MOV A, A`, 41_data_transfer.md R140. -/
  | movAA
  /-- 0x80, `ADD B`, 42_arithmetic.md R160. -/
  | addB
  /-- 0x81, `ADD C`, 42_arithmetic.md R160. -/
  | addC
  /-- 0x82, `ADD D`, 42_arithmetic.md R160. -/
  | addD
  /-- 0x83, `ADD E`, 42_arithmetic.md R160. -/
  | addE
  /-- 0x84, `ADD H`, 42_arithmetic.md R160. -/
  | addH
  /-- 0x85, `ADD L`, 42_arithmetic.md R160. -/
  | addL
  /-- 0x86, `ADD M`, 42_arithmetic.md R161. -/
  | addM
  /-- 0x87, `ADD A`, 42_arithmetic.md R160. -/
  | addA
  /-- 0x88, `ADC B`, 42_arithmetic.md R163. -/
  | adcB
  /-- 0x89, `ADC C`, 42_arithmetic.md R163. -/
  | adcC
  /-- 0x8A, `ADC D`, 42_arithmetic.md R163. -/
  | adcD
  /-- 0x8B, `ADC E`, 42_arithmetic.md R163. -/
  | adcE
  /-- 0x8C, `ADC H`, 42_arithmetic.md R163. -/
  | adcH
  /-- 0x8D, `ADC L`, 42_arithmetic.md R163. -/
  | adcL
  /-- 0x8E, `ADC M`, 42_arithmetic.md R164. -/
  | adcM
  /-- 0x8F, `ADC A`, 42_arithmetic.md R163. -/
  | adcA
  /-- 0x90, `SUB B`, 42_arithmetic.md R166. -/
  | subB
  /-- 0x91, `SUB C`, 42_arithmetic.md R166. -/
  | subC
  /-- 0x92, `SUB D`, 42_arithmetic.md R166. -/
  | subD
  /-- 0x93, `SUB E`, 42_arithmetic.md R166. -/
  | subE
  /-- 0x94, `SUB H`, 42_arithmetic.md R166. -/
  | subH
  /-- 0x95, `SUB L`, 42_arithmetic.md R166. -/
  | subL
  /-- 0x96, `SUB M`, 42_arithmetic.md R167. -/
  | subM
  /-- 0x97, `SUB A`, 42_arithmetic.md R166. -/
  | subA
  /-- 0x98, `SBB B`, 42_arithmetic.md R169. -/
  | sbbB
  /-- 0x99, `SBB C`, 42_arithmetic.md R169. -/
  | sbbC
  /-- 0x9A, `SBB D`, 42_arithmetic.md R169. -/
  | sbbD
  /-- 0x9B, `SBB E`, 42_arithmetic.md R169. -/
  | sbbE
  /-- 0x9C, `SBB H`, 42_arithmetic.md R169. -/
  | sbbH
  /-- 0x9D, `SBB L`, 42_arithmetic.md R169. -/
  | sbbL
  /-- 0x9E, `SBB M`, 42_arithmetic.md R170. -/
  | sbbM
  /-- 0x9F, `SBB A`, 42_arithmetic.md R169. -/
  | sbbA
  /-- 0xA0, `ANA B`, 43_logical.md R190. -/
  | anaB
  /-- 0xA1, `ANA C`, 43_logical.md R190. -/
  | anaC
  /-- 0xA2, `ANA D`, 43_logical.md R190. -/
  | anaD
  /-- 0xA3, `ANA E`, 43_logical.md R190. -/
  | anaE
  /-- 0xA4, `ANA H`, 43_logical.md R190. -/
  | anaH
  /-- 0xA5, `ANA L`, 43_logical.md R190. -/
  | anaL
  /-- 0xA6, `ANA M`, 43_logical.md R191. -/
  | anaM
  /-- 0xA7, `ANA A`, 43_logical.md R190. -/
  | anaA
  /-- 0xA8, `XRA B`, 43_logical.md R193. -/
  | xraB
  /-- 0xA9, `XRA C`, 43_logical.md R193. -/
  | xraC
  /-- 0xAA, `XRA D`, 43_logical.md R193. -/
  | xraD
  /-- 0xAB, `XRA E`, 43_logical.md R193. -/
  | xraE
  /-- 0xAC, `XRA H`, 43_logical.md R193. -/
  | xraH
  /-- 0xAD, `XRA L`, 43_logical.md R193. -/
  | xraL
  /-- 0xAE, `XRA M`, 43_logical.md R194. -/
  | xraM
  /-- 0xAF, `XRA A`, 43_logical.md R193. -/
  | xraA
  /-- 0xB0, `ORA B`, 43_logical.md R196. -/
  | oraB
  /-- 0xB1, `ORA C`, 43_logical.md R196. -/
  | oraC
  /-- 0xB2, `ORA D`, 43_logical.md R196. -/
  | oraD
  /-- 0xB3, `ORA E`, 43_logical.md R196. -/
  | oraE
  /-- 0xB4, `ORA H`, 43_logical.md R196. -/
  | oraH
  /-- 0xB5, `ORA L`, 43_logical.md R196. -/
  | oraL
  /-- 0xB6, `ORA M`, 43_logical.md R197. -/
  | oraM
  /-- 0xB7, `ORA A`, 43_logical.md R196. -/
  | oraA
  /-- 0xB8, `CMP B`, 43_logical.md R199. -/
  | cmpB
  /-- 0xB9, `CMP C`, 43_logical.md R199. -/
  | cmpC
  /-- 0xBA, `CMP D`, 43_logical.md R199. -/
  | cmpD
  /-- 0xBB, `CMP E`, 43_logical.md R199. -/
  | cmpE
  /-- 0xBC, `CMP H`, 43_logical.md R199. -/
  | cmpH
  /-- 0xBD, `CMP L`, 43_logical.md R199. -/
  | cmpL
  /-- 0xBE, `CMP M`, 43_logical.md R200. -/
  | cmpM
  /-- 0xBF, `CMP A`, 43_logical.md R199. -/
  | cmpA
  /-- 0xC0, `RNZ`, 44_branch.md R225. -/
  | rnz
  /-- 0xC1, `POP B`, 45_stack_io_control.md R242. -/
  | popB
  /-- 0xC5, `PUSH B`, 45_stack_io_control.md R240. -/
  | pushB
  /-- 0xC7, `RST 0`, 44_branch.md R226. -/
  | rst0
  /-- 0xC8, `RZ`, 44_branch.md R225. -/
  | rz
  /-- 0xC9, `RET`, 44_branch.md R224. -/
  | retC9
  /-- 0xCF, `RST 1`, 44_branch.md R226. -/
  | rst1
  /-- 0xD0, `RNC`, 44_branch.md R225. -/
  | rnc
  /-- 0xD1, `POP D`, 45_stack_io_control.md R242. -/
  | popD
  /-- 0xD5, `PUSH D`, 45_stack_io_control.md R240. -/
  | pushD
  /-- 0xD7, `RST 2`, 44_branch.md R226. -/
  | rst2
  /-- 0xD8, `RC`, 44_branch.md R225. -/
  | rc
  /-- 0xD9, `RET`, second byte value of 0xC9, 44_branch.md R224. -/
  | retD9
  /-- 0xDF, `RST 3`, 44_branch.md R226. -/
  | rst3
  /-- 0xE0, `RPO`, 44_branch.md R225. -/
  | rpo
  /-- 0xE1, `POP H`, 45_stack_io_control.md R242. -/
  | popH
  /-- 0xE3, `XTHL`, 45_stack_io_control.md R244. -/
  | xthl
  /-- 0xE5, `PUSH H`, 45_stack_io_control.md R240. -/
  | pushH
  /-- 0xE7, `RST 4`, 44_branch.md R226. -/
  | rst4
  /-- 0xE8, `RPE`, 44_branch.md R225. -/
  | rpe
  /-- 0xE9, `PCHL`, 44_branch.md R227. -/
  | pchl
  /-- 0xEB, `XCHG`, 41_data_transfer.md R153. -/
  | xchg
  /-- 0xEF, `RST 5`, 44_branch.md R226. -/
  | rst5
  /-- 0xF0, `RP`, 44_branch.md R225. -/
  | rp
  /-- 0xF1, `POP PSW`, 45_stack_io_control.md R243. -/
  | popPSW
  /-- 0xF3, `DI`, 45_stack_io_control.md R249. -/
  | di
  /-- 0xF5, `PUSH PSW`, 45_stack_io_control.md R241. -/
  | pushPSW
  /-- 0xF7, `RST 6`, 44_branch.md R226. -/
  | rst6
  /-- 0xF8, `RM`, 44_branch.md R225. -/
  | rm
  /-- 0xF9, `SPHL`, 45_stack_io_control.md R245. -/
  | sphl
  /-- 0xFB, `EI`, 45_stack_io_control.md R248. -/
  | ei
  /-- 0xFF, `RST 7`, 44_branch.md R226. -/
  | rst7
deriving DecidableEq, Repr

end Sys2Proof
end

