-- ==== Sys2Proof/Decode.lean ====
section
/-!
DEFINITION. Decoding: from bytes to an instruction and the bytes after it, total, rejecting by name; and the encoder.
The opcode byte alone selects the row (30_encoding.md R70, R78, 40_decode_operation.md R113); no encoding is illegal
(R82), so the only rejections are of lists that hold no opcode or fewer operand bytes than the row calls for.
-/

namespace Sys2Proof

/-- What a row of the opcode map makes of its operand bytes: formats I1, I2 and I3 (30_encoding.md R71 to R73). -/
inductive InstrForm
  | i1 (i : Instr)
  | i2 (mk : Byte → Instr)
  | i3 (mk : Byte → Byte → Instr)

/-- Row 0x of the opcode map (30_encoding.md R78). -/
def formRow0 : Vector InstrForm 16 := #v[
  .i1 .nop00, .i3 .lxiB, .i1 .staxB, .i1 .inxB,
  .i1 .inrB, .i1 .dcrB, .i2 .mviB, .i1 .rlc,
  .i1 .nop08, .i1 .dadB, .i1 .ldaxB, .i1 .dcxB,
  .i1 .inrC, .i1 .dcrC, .i2 .mviC, .i1 .rrc]

/-- Row 1x of the opcode map (30_encoding.md R78). -/
def formRow1 : Vector InstrForm 16 := #v[
  .i1 .nop10, .i3 .lxiD, .i1 .staxD, .i1 .inxD,
  .i1 .inrD, .i1 .dcrD, .i2 .mviD, .i1 .ral,
  .i1 .nop18, .i1 .dadD, .i1 .ldaxD, .i1 .dcxD,
  .i1 .inrE, .i1 .dcrE, .i2 .mviE, .i1 .rar]

/-- Row 2x of the opcode map (30_encoding.md R78). -/
def formRow2 : Vector InstrForm 16 := #v[
  .i1 .nop20, .i3 .lxiH, .i3 .shld, .i1 .inxH,
  .i1 .inrH, .i1 .dcrH, .i2 .mviH, .i1 .daa,
  .i1 .nop28, .i1 .dadH, .i3 .lhld, .i1 .dcxH,
  .i1 .inrL, .i1 .dcrL, .i2 .mviL, .i1 .cma]

/-- Row 3x of the opcode map (30_encoding.md R78). -/
def formRow3 : Vector InstrForm 16 := #v[
  .i1 .nop30, .i3 .lxiSP, .i3 .sta, .i1 .inxSP,
  .i1 .inrM, .i1 .dcrM, .i2 .mviM, .i1 .stc,
  .i1 .nop38, .i1 .dadSP, .i3 .lda, .i1 .dcxSP,
  .i1 .inrA, .i1 .dcrA, .i2 .mviA, .i1 .cmc]

/-- Row 4x of the opcode map (30_encoding.md R78). -/
def formRow4 : Vector InstrForm 16 := #v[
  .i1 .movBB, .i1 .movBC, .i1 .movBD, .i1 .movBE,
  .i1 .movBH, .i1 .movBL, .i1 .movBM, .i1 .movBA,
  .i1 .movCB, .i1 .movCC, .i1 .movCD, .i1 .movCE,
  .i1 .movCH, .i1 .movCL, .i1 .movCM, .i1 .movCA]

/-- Row 5x of the opcode map (30_encoding.md R78). -/
def formRow5 : Vector InstrForm 16 := #v[
  .i1 .movDB, .i1 .movDC, .i1 .movDD, .i1 .movDE,
  .i1 .movDH, .i1 .movDL, .i1 .movDM, .i1 .movDA,
  .i1 .movEB, .i1 .movEC, .i1 .movED, .i1 .movEE,
  .i1 .movEH, .i1 .movEL, .i1 .movEM, .i1 .movEA]

/-- Row 6x of the opcode map (30_encoding.md R78). -/
def formRow6 : Vector InstrForm 16 := #v[
  .i1 .movHB, .i1 .movHC, .i1 .movHD, .i1 .movHE,
  .i1 .movHH, .i1 .movHL, .i1 .movHM, .i1 .movHA,
  .i1 .movLB, .i1 .movLC, .i1 .movLD, .i1 .movLE,
  .i1 .movLH, .i1 .movLL, .i1 .movLM, .i1 .movLA]

/-- Row 7x of the opcode map (30_encoding.md R78). -/
def formRow7 : Vector InstrForm 16 := #v[
  .i1 .movMB, .i1 .movMC, .i1 .movMD, .i1 .movME,
  .i1 .movMH, .i1 .movML, .i1 .hlt, .i1 .movMA,
  .i1 .movAB, .i1 .movAC, .i1 .movAD, .i1 .movAE,
  .i1 .movAH, .i1 .movAL, .i1 .movAM, .i1 .movAA]

/-- Row 8x of the opcode map (30_encoding.md R78). -/
def formRow8 : Vector InstrForm 16 := #v[
  .i1 .addB, .i1 .addC, .i1 .addD, .i1 .addE,
  .i1 .addH, .i1 .addL, .i1 .addM, .i1 .addA,
  .i1 .adcB, .i1 .adcC, .i1 .adcD, .i1 .adcE,
  .i1 .adcH, .i1 .adcL, .i1 .adcM, .i1 .adcA]

/-- Row 9x of the opcode map (30_encoding.md R78). -/
def formRow9 : Vector InstrForm 16 := #v[
  .i1 .subB, .i1 .subC, .i1 .subD, .i1 .subE,
  .i1 .subH, .i1 .subL, .i1 .subM, .i1 .subA,
  .i1 .sbbB, .i1 .sbbC, .i1 .sbbD, .i1 .sbbE,
  .i1 .sbbH, .i1 .sbbL, .i1 .sbbM, .i1 .sbbA]

/-- Row Ax of the opcode map (30_encoding.md R78). -/
def formRowA : Vector InstrForm 16 := #v[
  .i1 .anaB, .i1 .anaC, .i1 .anaD, .i1 .anaE,
  .i1 .anaH, .i1 .anaL, .i1 .anaM, .i1 .anaA,
  .i1 .xraB, .i1 .xraC, .i1 .xraD, .i1 .xraE,
  .i1 .xraH, .i1 .xraL, .i1 .xraM, .i1 .xraA]

/-- Row Bx of the opcode map (30_encoding.md R78). -/
def formRowB : Vector InstrForm 16 := #v[
  .i1 .oraB, .i1 .oraC, .i1 .oraD, .i1 .oraE,
  .i1 .oraH, .i1 .oraL, .i1 .oraM, .i1 .oraA,
  .i1 .cmpB, .i1 .cmpC, .i1 .cmpD, .i1 .cmpE,
  .i1 .cmpH, .i1 .cmpL, .i1 .cmpM, .i1 .cmpA]

/-- Row Cx of the opcode map (30_encoding.md R78). -/
def formRowC : Vector InstrForm 16 := #v[
  .i1 .rnz, .i1 .popB, .i3 .jnz, .i3 .jmpC3,
  .i3 .cnz, .i1 .pushB, .i2 .adi, .i1 .rst0,
  .i1 .rz, .i1 .retC9, .i3 .jz, .i3 .jmpCB,
  .i3 .cz, .i3 .callCD, .i2 .aci, .i1 .rst1]

/-- Row Dx of the opcode map (30_encoding.md R78). -/
def formRowD : Vector InstrForm 16 := #v[
  .i1 .rnc, .i1 .popD, .i3 .jnc, .i2 .outPort,
  .i3 .cnc, .i1 .pushD, .i2 .sui, .i1 .rst2,
  .i1 .rc, .i1 .retD9, .i3 .jc, .i2 .inPort,
  .i3 .cc, .i3 .callDD, .i2 .sbi, .i1 .rst3]

/-- Row Ex of the opcode map (30_encoding.md R78). -/
def formRowE : Vector InstrForm 16 := #v[
  .i1 .rpo, .i1 .popH, .i3 .jpo, .i1 .xthl,
  .i3 .cpo, .i1 .pushH, .i2 .ani, .i1 .rst4,
  .i1 .rpe, .i1 .pchl, .i3 .jpe, .i1 .xchg,
  .i3 .cpe, .i3 .callED, .i2 .xri, .i1 .rst5]

/-- Row Fx of the opcode map (30_encoding.md R78). -/
def formRowF : Vector InstrForm 16 := #v[
  .i1 .rp, .i1 .popPSW, .i3 .jp, .i1 .di,
  .i3 .cp, .i1 .pushPSW, .i2 .ori, .i1 .rst6,
  .i1 .rm, .i1 .sphl, .i3 .jm, .i1 .ei,
  .i3 .cm, .i3 .callFD, .i2 .cpi, .i1 .rst7]

/-- The opcode map, 256 entries: the rows are the high nibble and the columns the low nibble (30_encoding.md R78). -/
def forms : Vector (Vector InstrForm 16) 16 :=
  #v[formRow0, formRow1, formRow2, formRow3, formRow4, formRow5, formRow6, formRow7,
    formRow8, formRow9, formRowA, formRowB, formRowC, formRowD, formRowE, formRowF]

/-- The row an opcode byte selects (30_encoding.md R70, R78). -/
def formAt (op : Byte) : InstrForm :=
  (forms.get (op.extractLsb' 4 4).toFin).get (op.extractLsb' 0 4).toFin

/-- Why a list of bytes is no instruction. -/
inductive DecodeError
  /-- The list holds no opcode byte. -/
  | noOpcode
  /-- Fewer bytes than the opcode's length calls for (40_decode_operation.md R114). -/
  | truncated (opcode : Byte) (required available : Nat)
deriving DecidableEq, Repr

/-- The instruction at the head of a list of bytes, and the bytes after it. Byte 2 and byte 3 follow the opcode
(20_memory.md R51). -/
def decode : List Byte → Except DecodeError (Instr × List Byte)
  | [] => .error .noOpcode
  | op :: rest =>
    match formAt op with
    | .i1 i => .ok (i, rest)
    | .i2 mk =>
      match rest with
      | b2 :: rest => .ok (mk b2, rest)
      | [] => .error (.truncated op 2 1)
    | .i3 mk =>
      match rest with
      | b2 :: b3 :: rest => .ok (mk b2 b3, rest)
      | [_] => .error (.truncated op 3 2)
      | [] => .error (.truncated op 3 1)

/-- The opcode byte of an instruction: the `match` column of the opcode table (30_encoding.md R78). -/
def Instr.opcode : Instr → Byte
  | .nop00 => 0x00
  | .lxiB _ _ => 0x01
  | .staxB => 0x02
  | .inxB => 0x03
  | .inrB => 0x04
  | .dcrB => 0x05
  | .mviB _ => 0x06
  | .rlc => 0x07
  | .nop08 => 0x08
  | .dadB => 0x09
  | .ldaxB => 0x0A
  | .dcxB => 0x0B
  | .inrC => 0x0C
  | .dcrC => 0x0D
  | .mviC _ => 0x0E
  | .rrc => 0x0F
  | .nop10 => 0x10
  | .lxiD _ _ => 0x11
  | .staxD => 0x12
  | .inxD => 0x13
  | .inrD => 0x14
  | .dcrD => 0x15
  | .mviD _ => 0x16
  | .ral => 0x17
  | .nop18 => 0x18
  | .dadD => 0x19
  | .ldaxD => 0x1A
  | .dcxD => 0x1B
  | .inrE => 0x1C
  | .dcrE => 0x1D
  | .mviE _ => 0x1E
  | .rar => 0x1F
  | .nop20 => 0x20
  | .lxiH _ _ => 0x21
  | .shld _ _ => 0x22
  | .inxH => 0x23
  | .inrH => 0x24
  | .dcrH => 0x25
  | .mviH _ => 0x26
  | .daa => 0x27
  | .nop28 => 0x28
  | .dadH => 0x29
  | .lhld _ _ => 0x2A
  | .dcxH => 0x2B
  | .inrL => 0x2C
  | .dcrL => 0x2D
  | .mviL _ => 0x2E
  | .cma => 0x2F
  | .nop30 => 0x30
  | .lxiSP _ _ => 0x31
  | .sta _ _ => 0x32
  | .inxSP => 0x33
  | .inrM => 0x34
  | .dcrM => 0x35
  | .mviM _ => 0x36
  | .stc => 0x37
  | .nop38 => 0x38
  | .dadSP => 0x39
  | .lda _ _ => 0x3A
  | .dcxSP => 0x3B
  | .inrA => 0x3C
  | .dcrA => 0x3D
  | .mviA _ => 0x3E
  | .cmc => 0x3F
  | .movBB => 0x40
  | .movBC => 0x41
  | .movBD => 0x42
  | .movBE => 0x43
  | .movBH => 0x44
  | .movBL => 0x45
  | .movBM => 0x46
  | .movBA => 0x47
  | .movCB => 0x48
  | .movCC => 0x49
  | .movCD => 0x4A
  | .movCE => 0x4B
  | .movCH => 0x4C
  | .movCL => 0x4D
  | .movCM => 0x4E
  | .movCA => 0x4F
  | .movDB => 0x50
  | .movDC => 0x51
  | .movDD => 0x52
  | .movDE => 0x53
  | .movDH => 0x54
  | .movDL => 0x55
  | .movDM => 0x56
  | .movDA => 0x57
  | .movEB => 0x58
  | .movEC => 0x59
  | .movED => 0x5A
  | .movEE => 0x5B
  | .movEH => 0x5C
  | .movEL => 0x5D
  | .movEM => 0x5E
  | .movEA => 0x5F
  | .movHB => 0x60
  | .movHC => 0x61
  | .movHD => 0x62
  | .movHE => 0x63
  | .movHH => 0x64
  | .movHL => 0x65
  | .movHM => 0x66
  | .movHA => 0x67
  | .movLB => 0x68
  | .movLC => 0x69
  | .movLD => 0x6A
  | .movLE => 0x6B
  | .movLH => 0x6C
  | .movLL => 0x6D
  | .movLM => 0x6E
  | .movLA => 0x6F
  | .movMB => 0x70
  | .movMC => 0x71
  | .movMD => 0x72
  | .movME => 0x73
  | .movMH => 0x74
  | .movML => 0x75
  | .hlt => 0x76
  | .movMA => 0x77
  | .movAB => 0x78
  | .movAC => 0x79
  | .movAD => 0x7A
  | .movAE => 0x7B
  | .movAH => 0x7C
  | .movAL => 0x7D
  | .movAM => 0x7E
  | .movAA => 0x7F
  | .addB => 0x80
  | .addC => 0x81
  | .addD => 0x82
  | .addE => 0x83
  | .addH => 0x84
  | .addL => 0x85
  | .addM => 0x86
  | .addA => 0x87
  | .adcB => 0x88
  | .adcC => 0x89
  | .adcD => 0x8A
  | .adcE => 0x8B
  | .adcH => 0x8C
  | .adcL => 0x8D
  | .adcM => 0x8E
  | .adcA => 0x8F
  | .subB => 0x90
  | .subC => 0x91
  | .subD => 0x92
  | .subE => 0x93
  | .subH => 0x94
  | .subL => 0x95
  | .subM => 0x96
  | .subA => 0x97
  | .sbbB => 0x98
  | .sbbC => 0x99
  | .sbbD => 0x9A
  | .sbbE => 0x9B
  | .sbbH => 0x9C
  | .sbbL => 0x9D
  | .sbbM => 0x9E
  | .sbbA => 0x9F
  | .anaB => 0xA0
  | .anaC => 0xA1
  | .anaD => 0xA2
  | .anaE => 0xA3
  | .anaH => 0xA4
  | .anaL => 0xA5
  | .anaM => 0xA6
  | .anaA => 0xA7
  | .xraB => 0xA8
  | .xraC => 0xA9
  | .xraD => 0xAA
  | .xraE => 0xAB
  | .xraH => 0xAC
  | .xraL => 0xAD
  | .xraM => 0xAE
  | .xraA => 0xAF
  | .oraB => 0xB0
  | .oraC => 0xB1
  | .oraD => 0xB2
  | .oraE => 0xB3
  | .oraH => 0xB4
  | .oraL => 0xB5
  | .oraM => 0xB6
  | .oraA => 0xB7
  | .cmpB => 0xB8
  | .cmpC => 0xB9
  | .cmpD => 0xBA
  | .cmpE => 0xBB
  | .cmpH => 0xBC
  | .cmpL => 0xBD
  | .cmpM => 0xBE
  | .cmpA => 0xBF
  | .rnz => 0xC0
  | .popB => 0xC1
  | .jnz _ _ => 0xC2
  | .jmpC3 _ _ => 0xC3
  | .cnz _ _ => 0xC4
  | .pushB => 0xC5
  | .adi _ => 0xC6
  | .rst0 => 0xC7
  | .rz => 0xC8
  | .retC9 => 0xC9
  | .jz _ _ => 0xCA
  | .jmpCB _ _ => 0xCB
  | .cz _ _ => 0xCC
  | .callCD _ _ => 0xCD
  | .aci _ => 0xCE
  | .rst1 => 0xCF
  | .rnc => 0xD0
  | .popD => 0xD1
  | .jnc _ _ => 0xD2
  | .outPort _ => 0xD3
  | .cnc _ _ => 0xD4
  | .pushD => 0xD5
  | .sui _ => 0xD6
  | .rst2 => 0xD7
  | .rc => 0xD8
  | .retD9 => 0xD9
  | .jc _ _ => 0xDA
  | .inPort _ => 0xDB
  | .cc _ _ => 0xDC
  | .callDD _ _ => 0xDD
  | .sbi _ => 0xDE
  | .rst3 => 0xDF
  | .rpo => 0xE0
  | .popH => 0xE1
  | .jpo _ _ => 0xE2
  | .xthl => 0xE3
  | .cpo _ _ => 0xE4
  | .pushH => 0xE5
  | .ani _ => 0xE6
  | .rst4 => 0xE7
  | .rpe => 0xE8
  | .pchl => 0xE9
  | .jpe _ _ => 0xEA
  | .xchg => 0xEB
  | .cpe _ _ => 0xEC
  | .callED _ _ => 0xED
  | .xri _ => 0xEE
  | .rst5 => 0xEF
  | .rp => 0xF0
  | .popPSW => 0xF1
  | .jp _ _ => 0xF2
  | .di => 0xF3
  | .cp _ _ => 0xF4
  | .pushPSW => 0xF5
  | .ori _ => 0xF6
  | .rst6 => 0xF7
  | .rm => 0xF8
  | .sphl => 0xF9
  | .jm _ _ => 0xFA
  | .ei => 0xFB
  | .cm _ _ => 0xFC
  | .callFD _ _ => 0xFD
  | .cpi _ => 0xFE
  | .rst7 => 0xFF

/-- The operand bytes of an instruction, byte 2 first (30_encoding.md R72, R73). -/
def Instr.operands : Instr → List Byte
  | .nop00 => []
  | .lxiB b2 b3 => [b2, b3]
  | .staxB => []
  | .inxB => []
  | .inrB => []
  | .dcrB => []
  | .mviB b2 => [b2]
  | .rlc => []
  | .nop08 => []
  | .dadB => []
  | .ldaxB => []
  | .dcxB => []
  | .inrC => []
  | .dcrC => []
  | .mviC b2 => [b2]
  | .rrc => []
  | .nop10 => []
  | .lxiD b2 b3 => [b2, b3]
  | .staxD => []
  | .inxD => []
  | .inrD => []
  | .dcrD => []
  | .mviD b2 => [b2]
  | .ral => []
  | .nop18 => []
  | .dadD => []
  | .ldaxD => []
  | .dcxD => []
  | .inrE => []
  | .dcrE => []
  | .mviE b2 => [b2]
  | .rar => []
  | .nop20 => []
  | .lxiH b2 b3 => [b2, b3]
  | .shld b2 b3 => [b2, b3]
  | .inxH => []
  | .inrH => []
  | .dcrH => []
  | .mviH b2 => [b2]
  | .daa => []
  | .nop28 => []
  | .dadH => []
  | .lhld b2 b3 => [b2, b3]
  | .dcxH => []
  | .inrL => []
  | .dcrL => []
  | .mviL b2 => [b2]
  | .cma => []
  | .nop30 => []
  | .lxiSP b2 b3 => [b2, b3]
  | .sta b2 b3 => [b2, b3]
  | .inxSP => []
  | .inrM => []
  | .dcrM => []
  | .mviM b2 => [b2]
  | .stc => []
  | .nop38 => []
  | .dadSP => []
  | .lda b2 b3 => [b2, b3]
  | .dcxSP => []
  | .inrA => []
  | .dcrA => []
  | .mviA b2 => [b2]
  | .cmc => []
  | .movBB => []
  | .movBC => []
  | .movBD => []
  | .movBE => []
  | .movBH => []
  | .movBL => []
  | .movBM => []
  | .movBA => []
  | .movCB => []
  | .movCC => []
  | .movCD => []
  | .movCE => []
  | .movCH => []
  | .movCL => []
  | .movCM => []
  | .movCA => []
  | .movDB => []
  | .movDC => []
  | .movDD => []
  | .movDE => []
  | .movDH => []
  | .movDL => []
  | .movDM => []
  | .movDA => []
  | .movEB => []
  | .movEC => []
  | .movED => []
  | .movEE => []
  | .movEH => []
  | .movEL => []
  | .movEM => []
  | .movEA => []
  | .movHB => []
  | .movHC => []
  | .movHD => []
  | .movHE => []
  | .movHH => []
  | .movHL => []
  | .movHM => []
  | .movHA => []
  | .movLB => []
  | .movLC => []
  | .movLD => []
  | .movLE => []
  | .movLH => []
  | .movLL => []
  | .movLM => []
  | .movLA => []
  | .movMB => []
  | .movMC => []
  | .movMD => []
  | .movME => []
  | .movMH => []
  | .movML => []
  | .hlt => []
  | .movMA => []
  | .movAB => []
  | .movAC => []
  | .movAD => []
  | .movAE => []
  | .movAH => []
  | .movAL => []
  | .movAM => []
  | .movAA => []
  | .addB => []
  | .addC => []
  | .addD => []
  | .addE => []
  | .addH => []
  | .addL => []
  | .addM => []
  | .addA => []
  | .adcB => []
  | .adcC => []
  | .adcD => []
  | .adcE => []
  | .adcH => []
  | .adcL => []
  | .adcM => []
  | .adcA => []
  | .subB => []
  | .subC => []
  | .subD => []
  | .subE => []
  | .subH => []
  | .subL => []
  | .subM => []
  | .subA => []
  | .sbbB => []
  | .sbbC => []
  | .sbbD => []
  | .sbbE => []
  | .sbbH => []
  | .sbbL => []
  | .sbbM => []
  | .sbbA => []
  | .anaB => []
  | .anaC => []
  | .anaD => []
  | .anaE => []
  | .anaH => []
  | .anaL => []
  | .anaM => []
  | .anaA => []
  | .xraB => []
  | .xraC => []
  | .xraD => []
  | .xraE => []
  | .xraH => []
  | .xraL => []
  | .xraM => []
  | .xraA => []
  | .oraB => []
  | .oraC => []
  | .oraD => []
  | .oraE => []
  | .oraH => []
  | .oraL => []
  | .oraM => []
  | .oraA => []
  | .cmpB => []
  | .cmpC => []
  | .cmpD => []
  | .cmpE => []
  | .cmpH => []
  | .cmpL => []
  | .cmpM => []
  | .cmpA => []
  | .rnz => []
  | .popB => []
  | .jnz b2 b3 => [b2, b3]
  | .jmpC3 b2 b3 => [b2, b3]
  | .cnz b2 b3 => [b2, b3]
  | .pushB => []
  | .adi b2 => [b2]
  | .rst0 => []
  | .rz => []
  | .retC9 => []
  | .jz b2 b3 => [b2, b3]
  | .jmpCB b2 b3 => [b2, b3]
  | .cz b2 b3 => [b2, b3]
  | .callCD b2 b3 => [b2, b3]
  | .aci b2 => [b2]
  | .rst1 => []
  | .rnc => []
  | .popD => []
  | .jnc b2 b3 => [b2, b3]
  | .outPort b2 => [b2]
  | .cnc b2 b3 => [b2, b3]
  | .pushD => []
  | .sui b2 => [b2]
  | .rst2 => []
  | .rc => []
  | .retD9 => []
  | .jc b2 b3 => [b2, b3]
  | .inPort b2 => [b2]
  | .cc b2 b3 => [b2, b3]
  | .callDD b2 b3 => [b2, b3]
  | .sbi b2 => [b2]
  | .rst3 => []
  | .rpo => []
  | .popH => []
  | .jpo b2 b3 => [b2, b3]
  | .xthl => []
  | .cpo b2 b3 => [b2, b3]
  | .pushH => []
  | .ani b2 => [b2]
  | .rst4 => []
  | .rpe => []
  | .pchl => []
  | .jpe b2 b3 => [b2, b3]
  | .xchg => []
  | .cpe b2 b3 => [b2, b3]
  | .callED b2 b3 => [b2, b3]
  | .xri b2 => [b2]
  | .rst5 => []
  | .rp => []
  | .popPSW => []
  | .jp b2 b3 => [b2, b3]
  | .di => []
  | .cp b2 b3 => [b2, b3]
  | .pushPSW => []
  | .ori b2 => [b2]
  | .rst6 => []
  | .rm => []
  | .sphl => []
  | .jm b2 b3 => [b2, b3]
  | .ei => []
  | .cm b2 b3 => [b2, b3]
  | .callFD b2 b3 => [b2, b3]
  | .cpi b2 => [b2]
  | .rst7 => []

/-- The bytes of an instruction (20_memory.md R51). -/
def encode (i : Instr) : List Byte := i.opcode :: i.operands

/-- The number of bytes of an instruction (30_encoding.md R70). -/
def Instr.length (i : Instr) : Nat := i.operands.length + 1

/-- The bytes of an instruction whose bits are `w` as spec/opcode_table.json numbers them: the first byte is bits 7..0,
byte 2 is bits 15..8 and byte 3 is bits 23..16; bits at and above `nbits` are 0. Three bytes, the longest instruction. -/
def tableWordBytes (nbits w : Nat) : List Byte :=
  let v := w % 2 ^ nbits
  [BitVec.ofNat 8 v, BitVec.ofNat 8 (v / 256), BitVec.ofNat 8 (v / 65536)]

/-- The instruction the decoder reads from an instruction's bits as the opcode table numbers them. -/
def decodeTableWord (nbits w : Nat) : Option Instr :=
  match decode (tableWordBytes nbits w) with
  | .ok (i, _) => some i
  | .error _ => none

end Sys2Proof
end

