-- ==== Sys2Proof/Machine/Records.lean ====
section
/-!
DEFINITION. The records the spec names: the contents of the two ROMs (10_state.md R21, R22) and the outcomes of a
request (10_state.md R26 to R30). Plain data.
-/

namespace Sys2Proof.Machine

/-- An instruction's total length, "1, 2, or 3" bytes (10_state.md R22; formats I1, I2, I3 of 30_encoding.md R71 to R73). -/
inductive InstrLength
  | one
  | two
  | three
deriving DecidableEq, Repr

/-- The operand kind of a descriptor (10_state.md R22, 30_encoding.md R74). -/
inductive OperandKind
  | noOperand
  | d8
  | port8
  | d16
  | a16
deriving DecidableEq, Repr

/-- A subset of the flag names Z, S, P, CY, AC (10_state.md R22, R33): metadata text, never computed. -/
structure FlagSet where
  z : Bool
  s : Bool
  p : Bool
  cy : Bool
  ac : Bool
deriving DecidableEq, Repr

/-- A piece of an operation template (30_encoding.md R87, R88, R81): literal text, or one of the placeholders
b2 (`byte2`), b3 (`byte3`), a16 (`word16`) and op (`opcode`). The template is held already cut at its placeholders (log 9). -/
inductive Piece
  | lit (text : String)
  | byte2
  | byte3
  | word16
  | opcode
deriving DecidableEq, Repr

/-- An operation template (30_encoding.md R87). -/
abbrev Template := List Piece

/-- A record of the descriptor ROM (10_state.md R22). -/
structure Descriptor where
  mnemonic  : String
  operation : Template
  length    : InstrLength
  operand   : OperandKind
  flags     : FlagSet
deriving DecidableEq, Repr

/-- A descriptor id (10_state.md R21): a canonical opcode value, or the Unknown sentinel. -/
inductive DescId
  | real (canonical : Byte)
  | unk
deriving DecidableEq, Repr

/-- The two ROMs. `table` is `Table`, 256 entries (10_state.md R21), laid out as the map of 30_encoding.md R78: the rows
are the high nibble of the opcode and the columns the low nibble. `desc` is `Desc`, one record for each real id, filed
by the high nibble of the id, each with its id; `unk` is the record of the sentinel (10_state.md R22). -/
structure Rom where
  table : Vector (Vector DescId 16) 16
  desc  : Vector (List (Byte × Descriptor)) 16
  unk   : Descriptor
deriving DecidableEq, Repr

/-- `DecodedRecord` (10_state.md R27). -/
structure DecodedRecord where
  address       : Nat
  opcode        : Byte
  descriptor    : DescId
  mnemonic      : String
  operation     : String
  length        : Nat
  bytesConsumed : Nat
  operands      : List Byte
  imm8          : Option Byte
  imm16         : Option Word16
  flags         : FlagSet
deriving DecidableEq, Repr

/-- `UnknownRecord` (10_state.md R28). -/
structure UnknownRecord where
  address       : Nat
  opcode        : Byte
  descriptor    : DescId
  mnemonic      : String
  operation     : String
  length        : Nat
  bytesConsumed : Nat
deriving DecidableEq, Repr

/-- `OutOfRangeInfo` (10_state.md R29). -/
structure OutOfRangeInfo where
  offset : Nat
  n      : Nat
deriving DecidableEq, Repr

/-- `TruncInfo` (10_state.md R30). -/
structure TruncInfo where
  address    : Nat
  opcode     : Byte
  descriptor : DescId
  required   : Nat
  available  : Nat
  present    : List Byte
deriving DecidableEq, Repr

/-- The outcome of a request (10_state.md R26). -/
inductive DecodeOutcome
  | decoded (record : DecodedRecord)
  | unknown (record : UnknownRecord)
  | outOfRange (info : OutOfRangeInfo)
  | truncated (info : TruncInfo)
deriving DecidableEq, Repr

/-- One request as the block sees it (10_state.md R24, R25): the offset, the buffer's length, and the bytes of the
fetch window that exist, at most three. -/
structure Request where
  offset : Nat
  n      : Nat
  window : List Byte
deriving DecidableEq, Repr

end Sys2Proof.Machine
end

