-- ==== Sys2Proof/Machine/Flags.lean ====
section
/-!
DEFINITION. The flag names and the flag sets of the descriptors. The block computes no flag (10_state.md R33), so no
flag computation exists to be modelled: a flag set is metadata of a descriptor and a field of its record.
-/

namespace Sys2Proof.Machine

/-- A flag name (10_state.md R33). -/
inductive Flag
  | z
  | s
  | p
  | cy
  | ac
deriving DecidableEq, Repr

/-- Whether a set holds a flag (10_state.md R22). -/
def FlagSet.has (f : FlagSet) : Flag → Bool
  | .z => f.z
  | .s => f.s
  | .p => f.p
  | .cy => f.cy
  | .ac => f.ac

/-- The empty set: the column `flags metadata` reads `none`. -/
def FlagSet.empty : FlagSet := ⟨false, false, false, false, false⟩

/-- Z, S, P, CY, AC. -/
def FlagSet.all : FlagSet := ⟨true, true, true, true, true⟩

/-- Z, S, P, AC: INR and DCR (42_arithmetic.md R172 to R175). -/
def FlagSet.allButCarry : FlagSet := ⟨true, true, true, false, true⟩

/-- CY alone: DAD, the rotates, CMC, STC (42_arithmetic.md R180, R181, 43_logical.md R202 to R208). -/
def FlagSet.carry : FlagSet := ⟨false, false, false, true, false⟩

end Sys2Proof.Machine
end

