-- ==== Sys2Proof/Machine/Operands.lean ====
section
/-!
DEFINITION. Operand forms: lengths, immediates and their byte order, hexadecimal text, template substitution, and the
fields of the opcode byte.
-/

namespace Sys2Proof.Machine

/-- The number of bytes of a length (10_state.md R22). -/
def InstrLength.bytes : InstrLength → Nat
  | .one => 1
  | .two => 2
  | .three => 3

/-- The length each operand kind goes with (10_state.md R23 item 1, 30_encoding.md R74). -/
def OperandKind.length : OperandKind → InstrLength
  | .noOperand => .one
  | .d8 => .two
  | .port8 => .two
  | .d16 => .three
  | .a16 => .three

/-- The 16-bit operand: byte 3 is the high byte and byte 2 the low byte (20_memory.md R53, 30_encoding.md R75). -/
def combine (b2 b3 : Byte) : Word16 := (b3.setWidth 16 <<< 8) ||| b2.setWidth 16

/-- `imm8`: byte 2 for kinds `d8` and `port8`, otherwise none (10_state.md R27, 20_memory.md R54). -/
def imm8Of : OperandKind → List Byte → Option Byte
  | .d8, b2 :: _ => some b2
  | .port8, b2 :: _ => some b2
  | .d8, [] => none
  | .port8, [] => none
  | .noOperand, _ => none
  | .d16, _ => none
  | .a16, _ => none

/-- `imm16`: byte 3 : byte 2 for kinds `d16` and `a16`, otherwise none (10_state.md R27, 20_memory.md R53). -/
def imm16Of : OperandKind → List Byte → Option Word16
  | .d16, b2 :: b3 :: _ => some (combine b2 b3)
  | .a16, b2 :: b3 :: _ => some (combine b2 b3)
  | .d16, _ => none
  | .a16, _ => none
  | .noOperand, _ => none
  | .d8, _ => none
  | .port8, _ => none

/-- The digits of hexadecimal text, uppercase (30_encoding.md R90). -/
def hexDigits : Vector Char 16 :=
  #v['0', '1', '2', '3', '4', '5', '6', '7', '8', '9', 'A', 'B', 'C', 'D', 'E', 'F']

/-- One hexadecimal digit (30_encoding.md R90). -/
def hexDigit (d : BitVec 4) : Char := hexDigits.get d.toFin

/-- `hex2`: two digits, the most significant first (30_encoding.md R90). -/
def hex2 (v : Byte) : String :=
  String.ofList [hexDigit (v.extractLsb' 4 4), hexDigit (v.extractLsb' 0 4)]

/-- `hex4`: four digits, the most significant first (30_encoding.md R90). -/
def hex4 (v : Word16) : String :=
  String.ofList [hexDigit (v.extractLsb' 12 4), hexDigit (v.extractLsb' 8 4),
    hexDigit (v.extractLsb' 4 4), hexDigit (v.extractLsb' 0 4)]

/-- The text of one piece of a template for an opcode and its operand bytes (30_encoding.md R89, R91, R81); none when
the piece names an operand byte that the instruction does not have, which R88 rules out (log 8). -/
def Piece.text (op : Byte) (operands : List Byte) : Piece → Option String
  | .lit t => some t
  | .byte2 => (operands[0]?).map fun b2 => "#$" ++ hex2 b2
  | .byte3 => (operands[1]?).map fun b3 => "#$" ++ hex2 b3
  | .word16 =>
    match operands with
    | b2 :: b3 :: _ => some ("#$" ++ hex4 (combine b2 b3))
    | [_] => none
    | [] => none
  | .opcode => some ("#$" ++ hex2 op)

/-- `Subst`: each placeholder replaced by its value, left to right, every other character copied, and nothing scanned
again (30_encoding.md R91). -/
def subst (op : Byte) (operands : List Byte) : Template → Option String
  | [] => some ""
  | p :: t =>
    match p.text op operands, subst op operands t with
    | some a, some b => some (a ++ b)
    | _, _ => none

/-- The template as the text the spec writes, with its placeholder words between braces (30_encoding.md R87, R88). -/
def Piece.source : Piece → String
  | .lit t => t
  | .byte2 => String.ofList [Char.ofNat 123, 'b', '2', Char.ofNat 125]
  | .byte3 => String.ofList [Char.ofNat 123, 'b', '3', Char.ofNat 125]
  | .word16 => String.ofList [Char.ofNat 123, 'a', '1', '6', Char.ofNat 125]
  | .opcode => String.ofList [Char.ofNat 123, 'o', 'p', Char.ofNat 125]

/-- The template text of the spec's tables (30_encoding.md R87). -/
def Template.source : Template → String
  | [] => ""
  | p :: t => p.source ++ Template.source t

/-- The register of a field code DDD or SSS; code 110 is M, the memory byte at (H) (L) (30_encoding.md R76). -/
def registerName : BitVec 3 → String
  | 0 => "B"
  | 1 => "C"
  | 2 => "D"
  | 3 => "E"
  | 4 => "H"
  | 5 => "L"
  | 6 => "M"
  | 7 => "A"

/-- What the operation text calls the operand of a field code: `(r)`, or the memory byte at (H) (L)
(30_encoding.md R76, R93). -/
def registerText (r : BitVec 3) : String :=
  if r = 6 then "((H) (L))" else "(" ++ registerName r ++ ")"

/-- The pair of a field code RP (30_encoding.md R77). -/
def pairName : BitVec 2 → String
  | 0 => "B"
  | 1 => "D"
  | 2 => "H"
  | 3 => "SP"

/-- The high register of pair B, D or H; a pair is named by its high register (30_encoding.md R77, R93). -/
def pairHigh : BitVec 2 → String
  | 0 => "(B)"
  | 1 => "(D)"
  | 2 => "(H)"
  | 3 => "(SP)"

/-- The low register of pair B, D or H; SP has no named halves (30_encoding.md R93). -/
def pairLow : BitVec 2 → String
  | 0 => "(C)"
  | 1 => "(E)"
  | 2 => "(L)"
  | 3 => "(SP)"

/-- What the operation text calls the content of a pair: high register first, or `(SP)` (30_encoding.md R93). -/
def pairText (rp : BitVec 2) : String :=
  if rp = 3 then "(SP)" else pairHigh rp ++ " " ++ pairLow rp

/-- The condition of a field code CCC (30_encoding.md R77). -/
def conditionName : BitVec 3 → String
  | 0 => "NZ"
  | 1 => "Z"
  | 2 => "NC"
  | 3 => "C"
  | 4 => "PO"
  | 5 => "PE"
  | 6 => "P"
  | 7 => "M"

/-- The restart target `8 * n` of a field code NNN (44_branch.md R226). -/
def restartTarget (n : BitVec 3) : Word16 := n.setWidth 16 <<< 3

/-- The name of a register ALU operation `10 ooo SSS` (30_encoding.md R77). -/
def aluName : BitVec 3 → String
  | 0 => "ADD"
  | 1 => "ADC"
  | 2 => "SUB"
  | 3 => "SBB"
  | 4 => "ANA"
  | 5 => "XRA"
  | 6 => "ORA"
  | 7 => "CMP"

/-- The name of an immediate ALU operation `11 ooo 110` (30_encoding.md R77). -/
def aluImmediateName : BitVec 3 → String
  | 0 => "ADI"
  | 1 => "ACI"
  | 2 => "SUI"
  | 3 => "SBI"
  | 4 => "ANI"
  | 5 => "XRI"
  | 6 => "ORI"
  | 7 => "CPI"

end Sys2Proof.Machine
end

