-- ==== Sys2Proof/Config.lean ====
section
/-!
DEFINITION. The block's implementation parameters (00_scope.md R7). `N` and the width of `offset` are open there
(92_eei_decisions.md D4) and are natural numbers in the model (log 13). The spec leaves no value undefined after an
instruction, so there is no free value here (log 15).
-/

namespace Sys2Proof.Config

/-- `OPCODE_W` (R7). -/
def opcodeWidth : Nat := 8

/-- `TABLE_SIZE` (R7): entries of the lookup ROM. -/
def tableSize : Nat := 256

/-- `MAX_LEN` (R7): bytes of the longest instruction. -/
def maxLength : Nat := 3

/-- `DESC_COUNT` (R7, R80): distinct real descriptors; the Unknown sentinel is one more. -/
def descriptorCount : Nat := 244

end Sys2Proof.Config
end

