-- ==== Sys2Proof/Machine/Rom.lean ====
section
/-!
DEFINITION. The contents of the two ROMs, as written in opcode_table.json: column `fields.descriptor` for the lookup
ROM (10_state.md R21), the other columns for the descriptor ROM (10_state.md R22), and column `rule` for the families of
R23 item 2. Every row the source does not
name is the spec's own general knowledge (93_implementation_defined.md K1, K2, K8; log 10).
-/

namespace Sys2Proof.Machine

/-- `Table` for opcodes 00 to 0F (10_state.md R21, 30_encoding.md R78 to R80). -/
def tableRow0 : Vector DescId 16 := #v[
  .real 0x00, .real 0x01, .real 0x02, .real 0x03, .real 0x04, .real 0x05, .real 0x06, .real 0x07,
  .real 0x00, .real 0x09, .real 0x0A, .real 0x0B, .real 0x0C, .real 0x0D, .real 0x0E, .real 0x0F]

/-- `Table` for opcodes 10 to 1F (10_state.md R21, 30_encoding.md R78 to R80). -/
def tableRow1 : Vector DescId 16 := #v[
  .real 0x00, .real 0x11, .real 0x12, .real 0x13, .real 0x14, .real 0x15, .real 0x16, .real 0x17,
  .real 0x00, .real 0x19, .real 0x1A, .real 0x1B, .real 0x1C, .real 0x1D, .real 0x1E, .real 0x1F]

/-- `Table` for opcodes 20 to 2F (10_state.md R21, 30_encoding.md R78 to R80). -/
def tableRow2 : Vector DescId 16 := #v[
  .real 0x00, .real 0x21, .real 0x22, .real 0x23, .real 0x24, .real 0x25, .real 0x26, .real 0x27,
  .real 0x00, .real 0x29, .real 0x2A, .real 0x2B, .real 0x2C, .real 0x2D, .real 0x2E, .real 0x2F]

/-- `Table` for opcodes 30 to 3F (10_state.md R21, 30_encoding.md R78 to R80). -/
def tableRow3 : Vector DescId 16 := #v[
  .real 0x00, .real 0x31, .real 0x32, .real 0x33, .real 0x34, .real 0x35, .real 0x36, .real 0x37,
  .real 0x00, .real 0x39, .real 0x3A, .real 0x3B, .real 0x3C, .real 0x3D, .real 0x3E, .real 0x3F]

/-- `Table` for opcodes 40 to 4F (10_state.md R21, 30_encoding.md R78 to R80). -/
def tableRow4 : Vector DescId 16 := #v[
  .real 0x40, .real 0x41, .real 0x42, .real 0x43, .real 0x44, .real 0x45, .real 0x46, .real 0x47,
  .real 0x48, .real 0x49, .real 0x4A, .real 0x4B, .real 0x4C, .real 0x4D, .real 0x4E, .real 0x4F]

/-- `Table` for opcodes 50 to 5F (10_state.md R21, 30_encoding.md R78 to R80). -/
def tableRow5 : Vector DescId 16 := #v[
  .real 0x50, .real 0x51, .real 0x52, .real 0x53, .real 0x54, .real 0x55, .real 0x56, .real 0x57,
  .real 0x58, .real 0x59, .real 0x5A, .real 0x5B, .real 0x5C, .real 0x5D, .real 0x5E, .real 0x5F]

/-- `Table` for opcodes 60 to 6F (10_state.md R21, 30_encoding.md R78 to R80). -/
def tableRow6 : Vector DescId 16 := #v[
  .real 0x60, .real 0x61, .real 0x62, .real 0x63, .real 0x64, .real 0x65, .real 0x66, .real 0x67,
  .real 0x68, .real 0x69, .real 0x6A, .real 0x6B, .real 0x6C, .real 0x6D, .real 0x6E, .real 0x6F]

/-- `Table` for opcodes 70 to 7F (10_state.md R21, 30_encoding.md R78 to R80). -/
def tableRow7 : Vector DescId 16 := #v[
  .real 0x70, .real 0x71, .real 0x72, .real 0x73, .real 0x74, .real 0x75, .real 0x76, .real 0x77,
  .real 0x78, .real 0x79, .real 0x7A, .real 0x7B, .real 0x7C, .real 0x7D, .real 0x7E, .real 0x7F]

/-- `Table` for opcodes 80 to 8F (10_state.md R21, 30_encoding.md R78 to R80). -/
def tableRow8 : Vector DescId 16 := #v[
  .real 0x80, .real 0x81, .real 0x82, .real 0x83, .real 0x84, .real 0x85, .real 0x86, .real 0x87,
  .real 0x88, .real 0x89, .real 0x8A, .real 0x8B, .real 0x8C, .real 0x8D, .real 0x8E, .real 0x8F]

/-- `Table` for opcodes 90 to 9F (10_state.md R21, 30_encoding.md R78 to R80). -/
def tableRow9 : Vector DescId 16 := #v[
  .real 0x90, .real 0x91, .real 0x92, .real 0x93, .real 0x94, .real 0x95, .real 0x96, .real 0x97,
  .real 0x98, .real 0x99, .real 0x9A, .real 0x9B, .real 0x9C, .real 0x9D, .real 0x9E, .real 0x9F]

/-- `Table` for opcodes A0 to AF (10_state.md R21, 30_encoding.md R78 to R80). -/
def tableRowA : Vector DescId 16 := #v[
  .real 0xA0, .real 0xA1, .real 0xA2, .real 0xA3, .real 0xA4, .real 0xA5, .real 0xA6, .real 0xA7,
  .real 0xA8, .real 0xA9, .real 0xAA, .real 0xAB, .real 0xAC, .real 0xAD, .real 0xAE, .real 0xAF]

/-- `Table` for opcodes B0 to BF (10_state.md R21, 30_encoding.md R78 to R80). -/
def tableRowB : Vector DescId 16 := #v[
  .real 0xB0, .real 0xB1, .real 0xB2, .real 0xB3, .real 0xB4, .real 0xB5, .real 0xB6, .real 0xB7,
  .real 0xB8, .real 0xB9, .real 0xBA, .real 0xBB, .real 0xBC, .real 0xBD, .real 0xBE, .real 0xBF]

/-- `Table` for opcodes C0 to CF (10_state.md R21, 30_encoding.md R78 to R80). -/
def tableRowC : Vector DescId 16 := #v[
  .real 0xC0, .real 0xC1, .real 0xC2, .real 0xC3, .real 0xC4, .real 0xC5, .real 0xC6, .real 0xC7,
  .real 0xC8, .real 0xC9, .real 0xCA, .real 0xC3, .real 0xCC, .real 0xCD, .real 0xCE, .real 0xCF]

/-- `Table` for opcodes D0 to DF (10_state.md R21, 30_encoding.md R78 to R80). -/
def tableRowD : Vector DescId 16 := #v[
  .real 0xD0, .real 0xD1, .real 0xD2, .real 0xD3, .real 0xD4, .real 0xD5, .real 0xD6, .real 0xD7,
  .real 0xD8, .real 0xC9, .real 0xDA, .real 0xDB, .real 0xDC, .real 0xCD, .real 0xDE, .real 0xDF]

/-- `Table` for opcodes E0 to EF (10_state.md R21, 30_encoding.md R78 to R80). -/
def tableRowE : Vector DescId 16 := #v[
  .real 0xE0, .real 0xE1, .real 0xE2, .real 0xE3, .real 0xE4, .real 0xE5, .real 0xE6, .real 0xE7,
  .real 0xE8, .real 0xE9, .real 0xEA, .real 0xEB, .real 0xEC, .real 0xCD, .real 0xEE, .real 0xEF]

/-- `Table` for opcodes F0 to FF (10_state.md R21, 30_encoding.md R78 to R80). -/
def tableRowF : Vector DescId 16 := #v[
  .real 0xF0, .real 0xF1, .real 0xF2, .real 0xF3, .real 0xF4, .real 0xF5, .real 0xF6, .real 0xF7,
  .real 0xF8, .real 0xF9, .real 0xFA, .real 0xFB, .real 0xFC, .real 0xCD, .real 0xFE, .real 0xFF]

/-- `Desc` for ids 00 to 0F (10_state.md R22). -/
def descRow0 : List (Byte × Descriptor) := [
  (0x00, ⟨"NOP", [.lit "no operation"], .one, .noOperand, .empty⟩),
  (0x01, ⟨"LXI B, d16", [.lit "(B) <= ", .byte3, .lit ", (C) <= ", .byte2], .three, .d16, .empty⟩),
  (0x02, ⟨"STAX B", [.lit "((B) (C)) <= (A)"], .one, .noOperand, .empty⟩),
  (0x03, ⟨"INX B", [.lit "(B) (C) <= (B) (C) + 1"], .one, .noOperand, .empty⟩),
  (0x04, ⟨"INR B", [.lit "(B) <= (B) + 1"], .one, .noOperand, .allButCarry⟩),
  (0x05, ⟨"DCR B", [.lit "(B) <= (B) - 1"], .one, .noOperand, .allButCarry⟩),
  (0x06, ⟨"MVI B, d8", [.lit "(B) <= ", .byte2], .two, .d8, .empty⟩),
  (0x07, ⟨"RLC", [.lit "(A) <= (A) << 1 | (A7), (CY) <= (A7)"], .one, .noOperand, .carry⟩),
  (0x09, ⟨"DAD B", [.lit "(H) (L) <= (H) (L) + (B) (C)"], .one, .noOperand, .carry⟩),
  (0x0A, ⟨"LDAX B", [.lit "(A) <= ((B) (C))"], .one, .noOperand, .empty⟩),
  (0x0B, ⟨"DCX B", [.lit "(B) (C) <= (B) (C) - 1"], .one, .noOperand, .empty⟩),
  (0x0C, ⟨"INR C", [.lit "(C) <= (C) + 1"], .one, .noOperand, .allButCarry⟩),
  (0x0D, ⟨"DCR C", [.lit "(C) <= (C) - 1"], .one, .noOperand, .allButCarry⟩),
  (0x0E, ⟨"MVI C, d8", [.lit "(C) <= ", .byte2], .two, .d8, .empty⟩),
  (0x0F, ⟨"RRC", [.lit "(A) <= (A) >> 1 | (A0) << 7, (CY) <= (A0)"], .one, .noOperand, .carry⟩)]

/-- `Desc` for ids 10 to 1F (10_state.md R22). -/
def descRow1 : List (Byte × Descriptor) := [
  (0x11, ⟨"LXI D, d16", [.lit "(D) <= ", .byte3, .lit ", (E) <= ", .byte2], .three, .d16, .empty⟩),
  (0x12, ⟨"STAX D", [.lit "((D) (E)) <= (A)"], .one, .noOperand, .empty⟩),
  (0x13, ⟨"INX D", [.lit "(D) (E) <= (D) (E) + 1"], .one, .noOperand, .empty⟩),
  (0x14, ⟨"INR D", [.lit "(D) <= (D) + 1"], .one, .noOperand, .allButCarry⟩),
  (0x15, ⟨"DCR D", [.lit "(D) <= (D) - 1"], .one, .noOperand, .allButCarry⟩),
  (0x16, ⟨"MVI D, d8", [.lit "(D) <= ", .byte2], .two, .d8, .empty⟩),
  (0x17, ⟨"RAL", [.lit "(A) <= (A) << 1 | (CY), (CY) <= (A7)"], .one, .noOperand, .carry⟩),
  (0x19, ⟨"DAD D", [.lit "(H) (L) <= (H) (L) + (D) (E)"], .one, .noOperand, .carry⟩),
  (0x1A, ⟨"LDAX D", [.lit "(A) <= ((D) (E))"], .one, .noOperand, .empty⟩),
  (0x1B, ⟨"DCX D", [.lit "(D) (E) <= (D) (E) - 1"], .one, .noOperand, .empty⟩),
  (0x1C, ⟨"INR E", [.lit "(E) <= (E) + 1"], .one, .noOperand, .allButCarry⟩),
  (0x1D, ⟨"DCR E", [.lit "(E) <= (E) - 1"], .one, .noOperand, .allButCarry⟩),
  (0x1E, ⟨"MVI E, d8", [.lit "(E) <= ", .byte2], .two, .d8, .empty⟩),
  (0x1F, ⟨"RAR", [.lit "(A) <= (A) >> 1 | (CY) << 7, (CY) <= (A0)"], .one, .noOperand, .carry⟩)]

/-- `Desc` for ids 20 to 2F (10_state.md R22). -/
def descRow2 : List (Byte × Descriptor) := [
  (0x21, ⟨"LXI H, d16", [.lit "(H) <= ", .byte3, .lit ", (L) <= ", .byte2], .three, .d16, .empty⟩),
  (0x22, ⟨"SHLD a16", [.lit "(", .word16, .lit ") <= (L), (", .word16, .lit " + 1) <= (H)"], .three, .a16, .empty⟩),
  (0x23, ⟨"INX H", [.lit "(H) (L) <= (H) (L) + 1"], .one, .noOperand, .empty⟩),
  (0x24, ⟨"INR H", [.lit "(H) <= (H) + 1"], .one, .noOperand, .allButCarry⟩),
  (0x25, ⟨"DCR H", [.lit "(H) <= (H) - 1"], .one, .noOperand, .allButCarry⟩),
  (0x26, ⟨"MVI H, d8", [.lit "(H) <= ", .byte2], .two, .d8, .empty⟩),
  (0x27, ⟨"DAA", [.lit "(A) <= decimal adjust (A)"], .one, .noOperand, .all⟩),
  (0x29, ⟨"DAD H", [.lit "(H) (L) <= (H) (L) + (H) (L)"], .one, .noOperand, .carry⟩),
  (0x2A, ⟨"LHLD a16", [.lit "(L) <= (", .word16, .lit "), (H) <= (", .word16, .lit " + 1)"], .three, .a16, .empty⟩),
  (0x2B, ⟨"DCX H", [.lit "(H) (L) <= (H) (L) - 1"], .one, .noOperand, .empty⟩),
  (0x2C, ⟨"INR L", [.lit "(L) <= (L) + 1"], .one, .noOperand, .allButCarry⟩),
  (0x2D, ⟨"DCR L", [.lit "(L) <= (L) - 1"], .one, .noOperand, .allButCarry⟩),
  (0x2E, ⟨"MVI L, d8", [.lit "(L) <= ", .byte2], .two, .d8, .empty⟩),
  (0x2F, ⟨"CMA", [.lit "(A) <= ~(A)"], .one, .noOperand, .empty⟩)]

/-- `Desc` for ids 30 to 3F (10_state.md R22). -/
def descRow3 : List (Byte × Descriptor) := [
  (0x31, ⟨"LXI SP, d16", [.lit "(SP) <= ", .word16], .three, .d16, .empty⟩),
  (0x32, ⟨"STA a16", [.lit "(", .word16, .lit ") <= (A)"], .three, .a16, .empty⟩),
  (0x33, ⟨"INX SP", [.lit "(SP) <= (SP) + 1"], .one, .noOperand, .empty⟩),
  (0x34, ⟨"INR M", [.lit "((H) (L)) <= ((H) (L)) + 1"], .one, .noOperand, .allButCarry⟩),
  (0x35, ⟨"DCR M", [.lit "((H) (L)) <= ((H) (L)) - 1"], .one, .noOperand, .allButCarry⟩),
  (0x36, ⟨"MVI M, d8", [.lit "((H) (L)) <= ", .byte2], .two, .d8, .empty⟩),
  (0x37, ⟨"STC", [.lit "(CY) <= 1"], .one, .noOperand, .carry⟩),
  (0x39, ⟨"DAD SP", [.lit "(H) (L) <= (H) (L) + (SP)"], .one, .noOperand, .carry⟩),
  (0x3A, ⟨"LDA a16", [.lit "(A) <= (", .word16, .lit ")"], .three, .a16, .empty⟩),
  (0x3B, ⟨"DCX SP", [.lit "(SP) <= (SP) - 1"], .one, .noOperand, .empty⟩),
  (0x3C, ⟨"INR A", [.lit "(A) <= (A) + 1"], .one, .noOperand, .allButCarry⟩),
  (0x3D, ⟨"DCR A", [.lit "(A) <= (A) - 1"], .one, .noOperand, .allButCarry⟩),
  (0x3E, ⟨"MVI A, d8", [.lit "(A) <= ", .byte2], .two, .d8, .empty⟩),
  (0x3F, ⟨"CMC", [.lit "(CY) <= ~(CY)"], .one, .noOperand, .carry⟩)]

/-- `Desc` for ids 40 to 4F (10_state.md R22). -/
def descRow4 : List (Byte × Descriptor) := [
  (0x40, ⟨"MOV B, B", [.lit "(B) <= (B)"], .one, .noOperand, .empty⟩),
  (0x41, ⟨"MOV B, C", [.lit "(B) <= (C)"], .one, .noOperand, .empty⟩),
  (0x42, ⟨"MOV B, D", [.lit "(B) <= (D)"], .one, .noOperand, .empty⟩),
  (0x43, ⟨"MOV B, E", [.lit "(B) <= (E)"], .one, .noOperand, .empty⟩),
  (0x44, ⟨"MOV B, H", [.lit "(B) <= (H)"], .one, .noOperand, .empty⟩),
  (0x45, ⟨"MOV B, L", [.lit "(B) <= (L)"], .one, .noOperand, .empty⟩),
  (0x46, ⟨"MOV B, M", [.lit "(B) <= ((H) (L))"], .one, .noOperand, .empty⟩),
  (0x47, ⟨"MOV B, A", [.lit "(B) <= (A)"], .one, .noOperand, .empty⟩),
  (0x48, ⟨"MOV C, B", [.lit "(C) <= (B)"], .one, .noOperand, .empty⟩),
  (0x49, ⟨"MOV C, C", [.lit "(C) <= (C)"], .one, .noOperand, .empty⟩),
  (0x4A, ⟨"MOV C, D", [.lit "(C) <= (D)"], .one, .noOperand, .empty⟩),
  (0x4B, ⟨"MOV C, E", [.lit "(C) <= (E)"], .one, .noOperand, .empty⟩),
  (0x4C, ⟨"MOV C, H", [.lit "(C) <= (H)"], .one, .noOperand, .empty⟩),
  (0x4D, ⟨"MOV C, L", [.lit "(C) <= (L)"], .one, .noOperand, .empty⟩),
  (0x4E, ⟨"MOV C, M", [.lit "(C) <= ((H) (L))"], .one, .noOperand, .empty⟩),
  (0x4F, ⟨"MOV C, A", [.lit "(C) <= (A)"], .one, .noOperand, .empty⟩)]

/-- `Desc` for ids 50 to 5F (10_state.md R22). -/
def descRow5 : List (Byte × Descriptor) := [
  (0x50, ⟨"MOV D, B", [.lit "(D) <= (B)"], .one, .noOperand, .empty⟩),
  (0x51, ⟨"MOV D, C", [.lit "(D) <= (C)"], .one, .noOperand, .empty⟩),
  (0x52, ⟨"MOV D, D", [.lit "(D) <= (D)"], .one, .noOperand, .empty⟩),
  (0x53, ⟨"MOV D, E", [.lit "(D) <= (E)"], .one, .noOperand, .empty⟩),
  (0x54, ⟨"MOV D, H", [.lit "(D) <= (H)"], .one, .noOperand, .empty⟩),
  (0x55, ⟨"MOV D, L", [.lit "(D) <= (L)"], .one, .noOperand, .empty⟩),
  (0x56, ⟨"MOV D, M", [.lit "(D) <= ((H) (L))"], .one, .noOperand, .empty⟩),
  (0x57, ⟨"MOV D, A", [.lit "(D) <= (A)"], .one, .noOperand, .empty⟩),
  (0x58, ⟨"MOV E, B", [.lit "(E) <= (B)"], .one, .noOperand, .empty⟩),
  (0x59, ⟨"MOV E, C", [.lit "(E) <= (C)"], .one, .noOperand, .empty⟩),
  (0x5A, ⟨"MOV E, D", [.lit "(E) <= (D)"], .one, .noOperand, .empty⟩),
  (0x5B, ⟨"MOV E, E", [.lit "(E) <= (E)"], .one, .noOperand, .empty⟩),
  (0x5C, ⟨"MOV E, H", [.lit "(E) <= (H)"], .one, .noOperand, .empty⟩),
  (0x5D, ⟨"MOV E, L", [.lit "(E) <= (L)"], .one, .noOperand, .empty⟩),
  (0x5E, ⟨"MOV E, M", [.lit "(E) <= ((H) (L))"], .one, .noOperand, .empty⟩),
  (0x5F, ⟨"MOV E, A", [.lit "(E) <= (A)"], .one, .noOperand, .empty⟩)]

/-- `Desc` for ids 60 to 6F (10_state.md R22). -/
def descRow6 : List (Byte × Descriptor) := [
  (0x60, ⟨"MOV H, B", [.lit "(H) <= (B)"], .one, .noOperand, .empty⟩),
  (0x61, ⟨"MOV H, C", [.lit "(H) <= (C)"], .one, .noOperand, .empty⟩),
  (0x62, ⟨"MOV H, D", [.lit "(H) <= (D)"], .one, .noOperand, .empty⟩),
  (0x63, ⟨"MOV H, E", [.lit "(H) <= (E)"], .one, .noOperand, .empty⟩),
  (0x64, ⟨"MOV H, H", [.lit "(H) <= (H)"], .one, .noOperand, .empty⟩),
  (0x65, ⟨"MOV H, L", [.lit "(H) <= (L)"], .one, .noOperand, .empty⟩),
  (0x66, ⟨"MOV H, M", [.lit "(H) <= ((H) (L))"], .one, .noOperand, .empty⟩),
  (0x67, ⟨"MOV H, A", [.lit "(H) <= (A)"], .one, .noOperand, .empty⟩),
  (0x68, ⟨"MOV L, B", [.lit "(L) <= (B)"], .one, .noOperand, .empty⟩),
  (0x69, ⟨"MOV L, C", [.lit "(L) <= (C)"], .one, .noOperand, .empty⟩),
  (0x6A, ⟨"MOV L, D", [.lit "(L) <= (D)"], .one, .noOperand, .empty⟩),
  (0x6B, ⟨"MOV L, E", [.lit "(L) <= (E)"], .one, .noOperand, .empty⟩),
  (0x6C, ⟨"MOV L, H", [.lit "(L) <= (H)"], .one, .noOperand, .empty⟩),
  (0x6D, ⟨"MOV L, L", [.lit "(L) <= (L)"], .one, .noOperand, .empty⟩),
  (0x6E, ⟨"MOV L, M", [.lit "(L) <= ((H) (L))"], .one, .noOperand, .empty⟩),
  (0x6F, ⟨"MOV L, A", [.lit "(L) <= (A)"], .one, .noOperand, .empty⟩)]

/-- `Desc` for ids 70 to 7F (10_state.md R22). -/
def descRow7 : List (Byte × Descriptor) := [
  (0x70, ⟨"MOV M, B", [.lit "((H) (L)) <= (B)"], .one, .noOperand, .empty⟩),
  (0x71, ⟨"MOV M, C", [.lit "((H) (L)) <= (C)"], .one, .noOperand, .empty⟩),
  (0x72, ⟨"MOV M, D", [.lit "((H) (L)) <= (D)"], .one, .noOperand, .empty⟩),
  (0x73, ⟨"MOV M, E", [.lit "((H) (L)) <= (E)"], .one, .noOperand, .empty⟩),
  (0x74, ⟨"MOV M, H", [.lit "((H) (L)) <= (H)"], .one, .noOperand, .empty⟩),
  (0x75, ⟨"MOV M, L", [.lit "((H) (L)) <= (L)"], .one, .noOperand, .empty⟩),
  (0x76, ⟨"HLT", [.lit "halt"], .one, .noOperand, .empty⟩),
  (0x77, ⟨"MOV M, A", [.lit "((H) (L)) <= (A)"], .one, .noOperand, .empty⟩),
  (0x78, ⟨"MOV A, B", [.lit "(A) <= (B)"], .one, .noOperand, .empty⟩),
  (0x79, ⟨"MOV A, C", [.lit "(A) <= (C)"], .one, .noOperand, .empty⟩),
  (0x7A, ⟨"MOV A, D", [.lit "(A) <= (D)"], .one, .noOperand, .empty⟩),
  (0x7B, ⟨"MOV A, E", [.lit "(A) <= (E)"], .one, .noOperand, .empty⟩),
  (0x7C, ⟨"MOV A, H", [.lit "(A) <= (H)"], .one, .noOperand, .empty⟩),
  (0x7D, ⟨"MOV A, L", [.lit "(A) <= (L)"], .one, .noOperand, .empty⟩),
  (0x7E, ⟨"MOV A, M", [.lit "(A) <= ((H) (L))"], .one, .noOperand, .empty⟩),
  (0x7F, ⟨"MOV A, A", [.lit "(A) <= (A)"], .one, .noOperand, .empty⟩)]

/-- `Desc` for ids 80 to 8F (10_state.md R22). -/
def descRow8 : List (Byte × Descriptor) := [
  (0x80, ⟨"ADD B", [.lit "(A) <= (A) + (B)"], .one, .noOperand, .all⟩),
  (0x81, ⟨"ADD C", [.lit "(A) <= (A) + (C)"], .one, .noOperand, .all⟩),
  (0x82, ⟨"ADD D", [.lit "(A) <= (A) + (D)"], .one, .noOperand, .all⟩),
  (0x83, ⟨"ADD E", [.lit "(A) <= (A) + (E)"], .one, .noOperand, .all⟩),
  (0x84, ⟨"ADD H", [.lit "(A) <= (A) + (H)"], .one, .noOperand, .all⟩),
  (0x85, ⟨"ADD L", [.lit "(A) <= (A) + (L)"], .one, .noOperand, .all⟩),
  (0x86, ⟨"ADD M", [.lit "(A) <= (A) + ((H) (L))"], .one, .noOperand, .all⟩),
  (0x87, ⟨"ADD A", [.lit "(A) <= (A) + (A)"], .one, .noOperand, .all⟩),
  (0x88, ⟨"ADC B", [.lit "(A) <= (A) + (B) + (CY)"], .one, .noOperand, .all⟩),
  (0x89, ⟨"ADC C", [.lit "(A) <= (A) + (C) + (CY)"], .one, .noOperand, .all⟩),
  (0x8A, ⟨"ADC D", [.lit "(A) <= (A) + (D) + (CY)"], .one, .noOperand, .all⟩),
  (0x8B, ⟨"ADC E", [.lit "(A) <= (A) + (E) + (CY)"], .one, .noOperand, .all⟩),
  (0x8C, ⟨"ADC H", [.lit "(A) <= (A) + (H) + (CY)"], .one, .noOperand, .all⟩),
  (0x8D, ⟨"ADC L", [.lit "(A) <= (A) + (L) + (CY)"], .one, .noOperand, .all⟩),
  (0x8E, ⟨"ADC M", [.lit "(A) <= (A) + ((H) (L)) + (CY)"], .one, .noOperand, .all⟩),
  (0x8F, ⟨"ADC A", [.lit "(A) <= (A) + (A) + (CY)"], .one, .noOperand, .all⟩)]

/-- `Desc` for ids 90 to 9F (10_state.md R22). -/
def descRow9 : List (Byte × Descriptor) := [
  (0x90, ⟨"SUB B", [.lit "(A) <= (A) - (B)"], .one, .noOperand, .all⟩),
  (0x91, ⟨"SUB C", [.lit "(A) <= (A) - (C)"], .one, .noOperand, .all⟩),
  (0x92, ⟨"SUB D", [.lit "(A) <= (A) - (D)"], .one, .noOperand, .all⟩),
  (0x93, ⟨"SUB E", [.lit "(A) <= (A) - (E)"], .one, .noOperand, .all⟩),
  (0x94, ⟨"SUB H", [.lit "(A) <= (A) - (H)"], .one, .noOperand, .all⟩),
  (0x95, ⟨"SUB L", [.lit "(A) <= (A) - (L)"], .one, .noOperand, .all⟩),
  (0x96, ⟨"SUB M", [.lit "(A) <= (A) - ((H) (L))"], .one, .noOperand, .all⟩),
  (0x97, ⟨"SUB A", [.lit "(A) <= (A) - (A)"], .one, .noOperand, .all⟩),
  (0x98, ⟨"SBB B", [.lit "(A) <= (A) - (B) - (CY)"], .one, .noOperand, .all⟩),
  (0x99, ⟨"SBB C", [.lit "(A) <= (A) - (C) - (CY)"], .one, .noOperand, .all⟩),
  (0x9A, ⟨"SBB D", [.lit "(A) <= (A) - (D) - (CY)"], .one, .noOperand, .all⟩),
  (0x9B, ⟨"SBB E", [.lit "(A) <= (A) - (E) - (CY)"], .one, .noOperand, .all⟩),
  (0x9C, ⟨"SBB H", [.lit "(A) <= (A) - (H) - (CY)"], .one, .noOperand, .all⟩),
  (0x9D, ⟨"SBB L", [.lit "(A) <= (A) - (L) - (CY)"], .one, .noOperand, .all⟩),
  (0x9E, ⟨"SBB M", [.lit "(A) <= (A) - ((H) (L)) - (CY)"], .one, .noOperand, .all⟩),
  (0x9F, ⟨"SBB A", [.lit "(A) <= (A) - (A) - (CY)"], .one, .noOperand, .all⟩)]

/-- `Desc` for ids A0 to AF (10_state.md R22). -/
def descRowA : List (Byte × Descriptor) := [
  (0xA0, ⟨"ANA B", [.lit "(A) <= (A) & (B)"], .one, .noOperand, .all⟩),
  (0xA1, ⟨"ANA C", [.lit "(A) <= (A) & (C)"], .one, .noOperand, .all⟩),
  (0xA2, ⟨"ANA D", [.lit "(A) <= (A) & (D)"], .one, .noOperand, .all⟩),
  (0xA3, ⟨"ANA E", [.lit "(A) <= (A) & (E)"], .one, .noOperand, .all⟩),
  (0xA4, ⟨"ANA H", [.lit "(A) <= (A) & (H)"], .one, .noOperand, .all⟩),
  (0xA5, ⟨"ANA L", [.lit "(A) <= (A) & (L)"], .one, .noOperand, .all⟩),
  (0xA6, ⟨"ANA M", [.lit "(A) <= (A) & ((H) (L))"], .one, .noOperand, .all⟩),
  (0xA7, ⟨"ANA A", [.lit "(A) <= (A) & (A)"], .one, .noOperand, .all⟩),
  (0xA8, ⟨"XRA B", [.lit "(A) <= (A) ^ (B)"], .one, .noOperand, .all⟩),
  (0xA9, ⟨"XRA C", [.lit "(A) <= (A) ^ (C)"], .one, .noOperand, .all⟩),
  (0xAA, ⟨"XRA D", [.lit "(A) <= (A) ^ (D)"], .one, .noOperand, .all⟩),
  (0xAB, ⟨"XRA E", [.lit "(A) <= (A) ^ (E)"], .one, .noOperand, .all⟩),
  (0xAC, ⟨"XRA H", [.lit "(A) <= (A) ^ (H)"], .one, .noOperand, .all⟩),
  (0xAD, ⟨"XRA L", [.lit "(A) <= (A) ^ (L)"], .one, .noOperand, .all⟩),
  (0xAE, ⟨"XRA M", [.lit "(A) <= (A) ^ ((H) (L))"], .one, .noOperand, .all⟩),
  (0xAF, ⟨"XRA A", [.lit "(A) <= (A) ^ (A)"], .one, .noOperand, .all⟩)]

/-- `Desc` for ids B0 to BF (10_state.md R22). -/
def descRowB : List (Byte × Descriptor) := [
  (0xB0, ⟨"ORA B", [.lit "(A) <= (A) | (B)"], .one, .noOperand, .all⟩),
  (0xB1, ⟨"ORA C", [.lit "(A) <= (A) | (C)"], .one, .noOperand, .all⟩),
  (0xB2, ⟨"ORA D", [.lit "(A) <= (A) | (D)"], .one, .noOperand, .all⟩),
  (0xB3, ⟨"ORA E", [.lit "(A) <= (A) | (E)"], .one, .noOperand, .all⟩),
  (0xB4, ⟨"ORA H", [.lit "(A) <= (A) | (H)"], .one, .noOperand, .all⟩),
  (0xB5, ⟨"ORA L", [.lit "(A) <= (A) | (L)"], .one, .noOperand, .all⟩),
  (0xB6, ⟨"ORA M", [.lit "(A) <= (A) | ((H) (L))"], .one, .noOperand, .all⟩),
  (0xB7, ⟨"ORA A", [.lit "(A) <= (A) | (A)"], .one, .noOperand, .all⟩),
  (0xB8, ⟨"CMP B", [.lit "(A) - (B)"], .one, .noOperand, .all⟩),
  (0xB9, ⟨"CMP C", [.lit "(A) - (C)"], .one, .noOperand, .all⟩),
  (0xBA, ⟨"CMP D", [.lit "(A) - (D)"], .one, .noOperand, .all⟩),
  (0xBB, ⟨"CMP E", [.lit "(A) - (E)"], .one, .noOperand, .all⟩),
  (0xBC, ⟨"CMP H", [.lit "(A) - (H)"], .one, .noOperand, .all⟩),
  (0xBD, ⟨"CMP L", [.lit "(A) - (L)"], .one, .noOperand, .all⟩),
  (0xBE, ⟨"CMP M", [.lit "(A) - ((H) (L))"], .one, .noOperand, .all⟩),
  (0xBF, ⟨"CMP A", [.lit "(A) - (A)"], .one, .noOperand, .all⟩)]

/-- `Desc` for ids C0 to CF (10_state.md R22). -/
def descRowC : List (Byte × Descriptor) := [
  (0xC0, ⟨"RNZ", [.lit "if NZ then (PCL) <= ((SP)), (PCH) <= ((SP) + 1), (SP) <= (SP) + 2"], .one, .noOperand, .empty⟩),
  (0xC1, ⟨"POP B", [.lit "(C) <= ((SP)), (B) <= ((SP) + 1), (SP) <= (SP) + 2"], .one, .noOperand, .empty⟩),
  (0xC2, ⟨"JNZ a16", [.lit "if NZ then (PC) <= ", .word16], .three, .a16, .empty⟩),
  (0xC3, ⟨"JMP a16", [.lit "(PC) <= ", .word16], .three, .a16, .empty⟩),
  (0xC4, ⟨"CNZ a16", [.lit "if NZ then ((SP) - 1) <= (PCH), ((SP) - 2) <= (PCL), (SP) <= (SP) - 2, (PC) <= ", .word16], .three, .a16, .empty⟩),
  (0xC5, ⟨"PUSH B", [.lit "((SP) - 1) <= (B), ((SP) - 2) <= (C), (SP) <= (SP) - 2"], .one, .noOperand, .empty⟩),
  (0xC6, ⟨"ADI d8", [.lit "(A) <= (A) + ", .byte2], .two, .d8, .all⟩),
  (0xC7, ⟨"RST 0", [.lit "((SP) - 1) <= (PCH), ((SP) - 2) <= (PCL), (SP) <= (SP) - 2, (PC) <= #$0000"], .one, .noOperand, .empty⟩),
  (0xC8, ⟨"RZ", [.lit "if Z then (PCL) <= ((SP)), (PCH) <= ((SP) + 1), (SP) <= (SP) + 2"], .one, .noOperand, .empty⟩),
  (0xC9, ⟨"RET", [.lit "(PCL) <= ((SP)), (PCH) <= ((SP) + 1), (SP) <= (SP) + 2"], .one, .noOperand, .empty⟩),
  (0xCA, ⟨"JZ a16", [.lit "if Z then (PC) <= ", .word16], .three, .a16, .empty⟩),
  (0xCC, ⟨"CZ a16", [.lit "if Z then ((SP) - 1) <= (PCH), ((SP) - 2) <= (PCL), (SP) <= (SP) - 2, (PC) <= ", .word16], .three, .a16, .empty⟩),
  (0xCD, ⟨"CALL a16", [.lit "((SP) - 1) <= (PCH), ((SP) - 2) <= (PCL), (SP) <= (SP) - 2, (PC) <= ", .word16], .three, .a16, .empty⟩),
  (0xCE, ⟨"ACI d8", [.lit "(A) <= (A) + ", .byte2, .lit " + (CY)"], .two, .d8, .all⟩),
  (0xCF, ⟨"RST 1", [.lit "((SP) - 1) <= (PCH), ((SP) - 2) <= (PCL), (SP) <= (SP) - 2, (PC) <= #$0008"], .one, .noOperand, .empty⟩)]

/-- `Desc` for ids D0 to DF (10_state.md R22). -/
def descRowD : List (Byte × Descriptor) := [
  (0xD0, ⟨"RNC", [.lit "if NC then (PCL) <= ((SP)), (PCH) <= ((SP) + 1), (SP) <= (SP) + 2"], .one, .noOperand, .empty⟩),
  (0xD1, ⟨"POP D", [.lit "(E) <= ((SP)), (D) <= ((SP) + 1), (SP) <= (SP) + 2"], .one, .noOperand, .empty⟩),
  (0xD2, ⟨"JNC a16", [.lit "if NC then (PC) <= ", .word16], .three, .a16, .empty⟩),
  (0xD3, ⟨"OUT d8", [.lit "(port ", .byte2, .lit ") <= (A)"], .two, .port8, .empty⟩),
  (0xD4, ⟨"CNC a16", [.lit "if NC then ((SP) - 1) <= (PCH), ((SP) - 2) <= (PCL), (SP) <= (SP) - 2, (PC) <= ", .word16], .three, .a16, .empty⟩),
  (0xD5, ⟨"PUSH D", [.lit "((SP) - 1) <= (D), ((SP) - 2) <= (E), (SP) <= (SP) - 2"], .one, .noOperand, .empty⟩),
  (0xD6, ⟨"SUI d8", [.lit "(A) <= (A) - ", .byte2], .two, .d8, .all⟩),
  (0xD7, ⟨"RST 2", [.lit "((SP) - 1) <= (PCH), ((SP) - 2) <= (PCL), (SP) <= (SP) - 2, (PC) <= #$0010"], .one, .noOperand, .empty⟩),
  (0xD8, ⟨"RC", [.lit "if C then (PCL) <= ((SP)), (PCH) <= ((SP) + 1), (SP) <= (SP) + 2"], .one, .noOperand, .empty⟩),
  (0xDA, ⟨"JC a16", [.lit "if C then (PC) <= ", .word16], .three, .a16, .empty⟩),
  (0xDB, ⟨"IN d8", [.lit "(A) <= (port ", .byte2, .lit ")"], .two, .port8, .empty⟩),
  (0xDC, ⟨"CC a16", [.lit "if C then ((SP) - 1) <= (PCH), ((SP) - 2) <= (PCL), (SP) <= (SP) - 2, (PC) <= ", .word16], .three, .a16, .empty⟩),
  (0xDE, ⟨"SBI d8", [.lit "(A) <= (A) - ", .byte2, .lit " - (CY)"], .two, .d8, .all⟩),
  (0xDF, ⟨"RST 3", [.lit "((SP) - 1) <= (PCH), ((SP) - 2) <= (PCL), (SP) <= (SP) - 2, (PC) <= #$0018"], .one, .noOperand, .empty⟩)]

/-- `Desc` for ids E0 to EF (10_state.md R22). -/
def descRowE : List (Byte × Descriptor) := [
  (0xE0, ⟨"RPO", [.lit "if PO then (PCL) <= ((SP)), (PCH) <= ((SP) + 1), (SP) <= (SP) + 2"], .one, .noOperand, .empty⟩),
  (0xE1, ⟨"POP H", [.lit "(L) <= ((SP)), (H) <= ((SP) + 1), (SP) <= (SP) + 2"], .one, .noOperand, .empty⟩),
  (0xE2, ⟨"JPO a16", [.lit "if PO then (PC) <= ", .word16], .three, .a16, .empty⟩),
  (0xE3, ⟨"XTHL", [.lit "(L) <=> ((SP)), (H) <=> ((SP) + 1)"], .one, .noOperand, .empty⟩),
  (0xE4, ⟨"CPO a16", [.lit "if PO then ((SP) - 1) <= (PCH), ((SP) - 2) <= (PCL), (SP) <= (SP) - 2, (PC) <= ", .word16], .three, .a16, .empty⟩),
  (0xE5, ⟨"PUSH H", [.lit "((SP) - 1) <= (H), ((SP) - 2) <= (L), (SP) <= (SP) - 2"], .one, .noOperand, .empty⟩),
  (0xE6, ⟨"ANI d8", [.lit "(A) <= (A) & ", .byte2], .two, .d8, .all⟩),
  (0xE7, ⟨"RST 4", [.lit "((SP) - 1) <= (PCH), ((SP) - 2) <= (PCL), (SP) <= (SP) - 2, (PC) <= #$0020"], .one, .noOperand, .empty⟩),
  (0xE8, ⟨"RPE", [.lit "if PE then (PCL) <= ((SP)), (PCH) <= ((SP) + 1), (SP) <= (SP) + 2"], .one, .noOperand, .empty⟩),
  (0xE9, ⟨"PCHL", [.lit "(PCH) <= (H), (PCL) <= (L)"], .one, .noOperand, .empty⟩),
  (0xEA, ⟨"JPE a16", [.lit "if PE then (PC) <= ", .word16], .three, .a16, .empty⟩),
  (0xEB, ⟨"XCHG", [.lit "(H) <=> (D), (L) <=> (E)"], .one, .noOperand, .empty⟩),
  (0xEC, ⟨"CPE a16", [.lit "if PE then ((SP) - 1) <= (PCH), ((SP) - 2) <= (PCL), (SP) <= (SP) - 2, (PC) <= ", .word16], .three, .a16, .empty⟩),
  (0xEE, ⟨"XRI d8", [.lit "(A) <= (A) ^ ", .byte2], .two, .d8, .all⟩),
  (0xEF, ⟨"RST 5", [.lit "((SP) - 1) <= (PCH), ((SP) - 2) <= (PCL), (SP) <= (SP) - 2, (PC) <= #$0028"], .one, .noOperand, .empty⟩)]

/-- `Desc` for ids F0 to FF (10_state.md R22). -/
def descRowF : List (Byte × Descriptor) := [
  (0xF0, ⟨"RP", [.lit "if P then (PCL) <= ((SP)), (PCH) <= ((SP) + 1), (SP) <= (SP) + 2"], .one, .noOperand, .empty⟩),
  (0xF1, ⟨"POP PSW", [.lit "(FLAGS) <= ((SP)), (A) <= ((SP) + 1), (SP) <= (SP) + 2"], .one, .noOperand, .all⟩),
  (0xF2, ⟨"JP a16", [.lit "if P then (PC) <= ", .word16], .three, .a16, .empty⟩),
  (0xF3, ⟨"DI", [.lit "disable interrupts"], .one, .noOperand, .empty⟩),
  (0xF4, ⟨"CP a16", [.lit "if P then ((SP) - 1) <= (PCH), ((SP) - 2) <= (PCL), (SP) <= (SP) - 2, (PC) <= ", .word16], .three, .a16, .empty⟩),
  (0xF5, ⟨"PUSH PSW", [.lit "((SP) - 1) <= (A), ((SP) - 2) <= (FLAGS), (SP) <= (SP) - 2"], .one, .noOperand, .empty⟩),
  (0xF6, ⟨"ORI d8", [.lit "(A) <= (A) | ", .byte2], .two, .d8, .all⟩),
  (0xF7, ⟨"RST 6", [.lit "((SP) - 1) <= (PCH), ((SP) - 2) <= (PCL), (SP) <= (SP) - 2, (PC) <= #$0030"], .one, .noOperand, .empty⟩),
  (0xF8, ⟨"RM", [.lit "if M then (PCL) <= ((SP)), (PCH) <= ((SP) + 1), (SP) <= (SP) + 2"], .one, .noOperand, .empty⟩),
  (0xF9, ⟨"SPHL", [.lit "(SP) <= (H) (L)"], .one, .noOperand, .empty⟩),
  (0xFA, ⟨"JM a16", [.lit "if M then (PC) <= ", .word16], .three, .a16, .empty⟩),
  (0xFB, ⟨"EI", [.lit "enable interrupts"], .one, .noOperand, .empty⟩),
  (0xFC, ⟨"CM a16", [.lit "if M then ((SP) - 1) <= (PCH), ((SP) - 2) <= (PCL), (SP) <= (SP) - 2, (PC) <= ", .word16], .three, .a16, .empty⟩),
  (0xFE, ⟨"CPI d8", [.lit "(A) - ", .byte2], .two, .d8, .all⟩),
  (0xFF, ⟨"RST 7", [.lit "((SP) - 1) <= (PCH), ((SP) - 2) <= (PCL), (SP) <= (SP) - 2, (PC) <= #$0038"], .one, .noOperand, .empty⟩)]

/-- `Desc[UNK]`, the Unknown sentinel's record (30_encoding.md R81). -/
def unknownDescriptor : Descriptor :=
  ⟨"???", [.lit "unrecognized instruction ", .opcode], .one, .noOperand, .empty⟩

/-- The contents both ROMs hold before the first request and ever after (10_state.md R38, 70_reset_and_hazards.md R292). -/
def Rom.contents : Rom where
  table := #v[tableRow0, tableRow1, tableRow2, tableRow3, tableRow4, tableRow5, tableRow6, tableRow7,
    tableRow8, tableRow9, tableRowA, tableRowB, tableRowC, tableRowD, tableRowE, tableRowF]
  desc := #v[descRow0, descRow1, descRow2, descRow3, descRow4, descRow5, descRow6, descRow7,
    descRow8, descRow9, descRowA, descRowB, descRowC, descRowD, descRowE, descRowF]
  unk := unknownDescriptor

/-- The rules of 41_data_transfer.md, each with the opcodes of its rows. -/
def ruleFamiliesDataTransfer : List (Nat × List Byte) := [
  (140, [0x40, 0x41, 0x42, 0x43, 0x44, 0x45, 0x47, 0x48, 0x49, 0x4A, 0x4B, 0x4C, 0x4D, 0x4F, 0x50, 0x51, 0x52,
    0x53, 0x54, 0x55, 0x57, 0x58, 0x59, 0x5A, 0x5B, 0x5C, 0x5D, 0x5F, 0x60, 0x61, 0x62, 0x63, 0x64, 0x65, 0x67,
    0x68, 0x69, 0x6A, 0x6B, 0x6C, 0x6D, 0x6F, 0x78, 0x79, 0x7A, 0x7B, 0x7C, 0x7D, 0x7F]),
  (141, [0x46, 0x4E, 0x56, 0x5E, 0x66, 0x6E, 0x7E]),
  (142, [0x70, 0x71, 0x72, 0x73, 0x74, 0x75, 0x77]),
  (143, [0x06, 0x0E, 0x16, 0x1E, 0x26, 0x2E, 0x3E]),
  (144, [0x36]),
  (145, [0x01, 0x11, 0x21]),
  (146, [0x31]),
  (147, [0x3A]),
  (148, [0x32]),
  (149, [0x2A]),
  (150, [0x22]),
  (151, [0x0A, 0x1A]),
  (152, [0x02, 0x12]),
  (153, [0xEB])]

/-- The rules of 42_arithmetic.md, each with the opcodes of its rows. -/
def ruleFamiliesArithmetic : List (Nat × List Byte) := [
  (160, [0x80, 0x81, 0x82, 0x83, 0x84, 0x85, 0x87]),
  (161, [0x86]),
  (162, [0xC6]),
  (163, [0x88, 0x89, 0x8A, 0x8B, 0x8C, 0x8D, 0x8F]),
  (164, [0x8E]),
  (165, [0xCE]),
  (166, [0x90, 0x91, 0x92, 0x93, 0x94, 0x95, 0x97]),
  (167, [0x96]),
  (168, [0xD6]),
  (169, [0x98, 0x99, 0x9A, 0x9B, 0x9C, 0x9D, 0x9F]),
  (170, [0x9E]),
  (171, [0xDE]),
  (172, [0x04, 0x0C, 0x14, 0x1C, 0x24, 0x2C, 0x3C]),
  (173, [0x34]),
  (174, [0x05, 0x0D, 0x15, 0x1D, 0x25, 0x2D, 0x3D]),
  (175, [0x35]),
  (176, [0x03, 0x13, 0x23]),
  (177, [0x33]),
  (178, [0x0B, 0x1B, 0x2B]),
  (179, [0x3B]),
  (180, [0x09, 0x19, 0x29]),
  (181, [0x39]),
  (182, [0x27])]

/-- The rules of 43_logical.md, each with the opcodes of its rows. -/
def ruleFamiliesLogical : List (Nat × List Byte) := [
  (190, [0xA0, 0xA1, 0xA2, 0xA3, 0xA4, 0xA5, 0xA7]),
  (191, [0xA6]),
  (192, [0xE6]),
  (193, [0xA8, 0xA9, 0xAA, 0xAB, 0xAC, 0xAD, 0xAF]),
  (194, [0xAE]),
  (195, [0xEE]),
  (196, [0xB0, 0xB1, 0xB2, 0xB3, 0xB4, 0xB5, 0xB7]),
  (197, [0xB6]),
  (198, [0xF6]),
  (199, [0xB8, 0xB9, 0xBA, 0xBB, 0xBC, 0xBD, 0xBF]),
  (200, [0xBE]),
  (201, [0xFE]),
  (202, [0x07]),
  (203, [0x0F]),
  (204, [0x17]),
  (205, [0x1F]),
  (206, [0x2F]),
  (207, [0x3F]),
  (208, [0x37])]

/-- The rules of 44_branch.md, each with the opcodes of its rows. -/
def ruleFamiliesBranch : List (Nat × List Byte) := [
  (220, [0xC3, 0xCB]),
  (221, [0xC2, 0xCA, 0xD2, 0xDA, 0xE2, 0xEA, 0xF2, 0xFA]),
  (222, [0xCD, 0xDD, 0xED, 0xFD]),
  (223, [0xC4, 0xCC, 0xD4, 0xDC, 0xE4, 0xEC, 0xF4, 0xFC]),
  (224, [0xC9, 0xD9]),
  (225, [0xC0, 0xC8, 0xD0, 0xD8, 0xE0, 0xE8, 0xF0, 0xF8]),
  (226, [0xC7, 0xCF, 0xD7, 0xDF, 0xE7, 0xEF, 0xF7, 0xFF]),
  (227, [0xE9])]

/-- The rules of 45_stack_io_control.md, each with the opcodes of its rows. -/
def ruleFamiliesStackIoControl : List (Nat × List Byte) := [
  (240, [0xC5, 0xD5, 0xE5]),
  (241, [0xF5]),
  (242, [0xC1, 0xD1, 0xE1]),
  (243, [0xF1]),
  (244, [0xE3]),
  (245, [0xF9]),
  (246, [0xDB]),
  (247, [0xD3]),
  (248, [0xFB]),
  (249, [0xF3]),
  (250, [0x76]),
  (251, [0x00, 0x08, 0x10, 0x18, 0x20, 0x28, 0x30, 0x38])]

/-- Every rule number of column `rule` of opcode_table.json, with the opcodes of its rows (10_state.md R23 item 2). -/
def ruleFamilies : List (Nat × List Byte) :=
  ruleFamiliesDataTransfer ++ ruleFamiliesArithmetic ++ ruleFamiliesLogical ++ ruleFamiliesBranch ++ ruleFamiliesStackIoControl

end Sys2Proof.Machine
end

