-- ==== Sys2Proof/Machine/State.lean ====
section
/-!
DEFINITION. The state, the ways a step can stop, and the state after reset. The block itself has no mutable state
(10_state.md R20): State holds its two ROMs (R38), the lines of its interface (R24, R26) and the reference caller's
cursor and list (R32, 40_decode_operation.md R123); see log 2.
-/

namespace Sys2Proof.Machine

/-- The bytes of the input buffer (10_state.md R36): cells at strictly rising indices, none holding what an unlisted
index holds (`Memory.wf`). -/
abbrev Memory := List Host.Cell

/-- Why a step stops with a fault. -/
inductive Fault
  /-- Raised by `respond` when the state's ROMs hold no record for the descriptor id, or one whose length or
  placeholders the instruction's bytes do not meet: R22, R23 and R292 say the ROMs hold such a record before the first
  request. Safe: no state reached from reset raises it (log 8). -/
  | romNotLoaded
deriving DecidableEq, Repr

/-- Why a step is refused. -/
inductive Refusal
  /-- Raised by an arm of `exec` whose instruction has no meaning yet; no arm does. Safe. -/
  | notModelled (mnemonic : String)
  /-- Raised by `step` when no request is presented: outputs are defined only as answers to requests
  (70_reset_and_hazards.md R291, U8). Safe (log 7). -/
  | noRequest
  /-- Raised by `step` when the window or the length changes while the request is in progress: "A model must not give
  that case a value; it must refuse it" (20_memory.md R60, 70_reset_and_hazards.md R295, U1). Safe (log 6). -/
  | windowChanged
deriving DecidableEq, Repr

/-- The machine: the block's ROMs, the lines of its interface, and the reference caller. -/
structure State where
  /-- The lookup ROM and the descriptor ROM (10_state.md R21, R22, R38). -/
  rom : Rom
  /-- The bytes of the input buffer (10_state.md R24, R36). -/
  buf : Memory
  /-- `N`, the length of the buffer (10_state.md R24). -/
  n : Nat
  /-- The offset of the request, which is the caller's cursor (10_state.md R24, R32). -/
  offset : Nat
  /-- Whether the caller presents a request (70_reset_and_hazards.md R291, 40_decode_operation.md R123). -/
  requested : Bool
  /-- Whether the window and the length hold still while the request is in progress (20_memory.md R60). -/
  steady : Bool
  /-- The outcome answered last (10_state.md R26); none before any request (R38). That it is held after its request has
  ended is a DESIGN CHOICE (log 22). -/
  outcome : Option DecodeOutcome
  /-- The walk's list of outcomes (40_decode_operation.md R123). That requests presented outside a walk append to it, and
  only a walk's start clears it, is a DESIGN CHOICE (log 23). -/
  trace : List DecodeOutcome
deriving DecidableEq, Repr

/-- The state after reset: the ROMs hold the contents of opcode_table.json (10_state.md R38, 70_reset_and_hazards.md
R290, R292). DESIGN CHOICE (log 3), unsafe: no request is presented, the buffer is empty, the cursor is 0, the window
counts as steady, and no outcome has been answered. -/
def State.reset : State where
  rom := Rom.contents
  buf := []
  n := 0
  offset := 0
  requested := false
  steady := true
  outcome := none
  trace := []

end Sys2Proof.Machine
end

