-- ==== Sys2Proof/Machine/Ops.lean ====
section
/-!
DEFINITION. The shared operations: the buffer, the fetch window, the lookups in the ROMs, the decode of one request
(40_decode_operation.md R110), the delivery of an outcome (60_exceptions.md R265), and what a caller may do.
-/

namespace Sys2Proof.Machine

/-! ### The buffer -/

/-- What an index of the buffer that no cell lists holds. DESIGN CHOICE (log 5), unsafe. -/
def Memory.unlisted : Byte := 0x00

/-- The canonical form: indices strictly rising, and no cell holding what an unlisted index holds. -/
abbrev Memory.wf (m : Memory) : Prop :=
  m.Pairwise (fun c d => c.1 < d.1) ∧ ∀ c ∈ m, c.2 ≠ Memory.unlisted

/-- The byte at an index (20_memory.md R52). -/
def Memory.read : Memory → Nat → Byte
  | [], _ => Memory.unlisted
  | (x, y) :: m, a => if x = a then y else Memory.read m a

/-- A write of one byte by the caller, keeping the canonical form. The block itself writes nothing (20_memory.md R50). -/
def Memory.write : Memory → Nat → Byte → Memory
  | [], a, b => if b = Memory.unlisted then [] else [(a, b)]
  | (x, y) :: m, a, b =>
    if a < x then (if b = Memory.unlisted then (x, y) :: m else (a, b) :: (x, y) :: m)
    else if a = x then (if b = Memory.unlisted then m else (a, b) :: m)
    else (x, y) :: Memory.write m a b

/-- The cells below an index: what is left of a buffer cut to that length. -/
def Memory.below (m : Memory) (n : Nat) : Memory := m.filter fun c => c.1 < n

/-- The bytes of a list laid out at rising indices from `base` (20_memory.md R51). -/
def Memory.load (m : Memory) (base : Nat) : List Byte → Memory
  | [] => m
  | b :: bs => Memory.load (Memory.write m base b) (base + 1) bs

/-- `MemRead(i, 1)`: defined only for `i < N` (00_scope.md R9, 20_memory.md R52). -/
def State.readByte (s : State) (i : Nat) : Option Byte :=
  if i < s.n then some (Memory.read s.buf i) else none

/-- `avail = min(3, N - offset)` (10_state.md R25). -/
def State.avail (s : State) : Nat := min 3 (s.n - s.offset)

/-- The bytes of the fetch window that exist (10_state.md R25). -/
def State.window (s : State) : List Byte :=
  (List.range s.avail).map fun k => Memory.read s.buf (s.offset + k)

/-- The request the state presents to the block (10_state.md R24, R25). -/
def State.request (s : State) : Request where
  offset := s.offset
  n := s.n
  window := s.window

/-! ### The ROMs -/

/-- The high nibble of a byte. -/
def highNibble (b : Byte) : BitVec 4 := b.extractLsb' 4 4

/-- The low nibble of a byte. -/
def lowNibble (b : Byte) : BitVec 4 := b.extractLsb' 0 4

/-- `Table[op]`: one entry for each of the 256 opcode values (10_state.md R21, 40_decode_operation.md R113). -/
def Rom.lookup (r : Rom) (op : Byte) : DescId := (r.table.get (highNibble op).toFin).get (lowNibble op).toFin

/-- The record of an id in a list of records. -/
def findRecord : List (Byte × Descriptor) → Byte → Option Descriptor
  | [], _ => none
  | (c, e) :: t, d => if c = d then some e else findRecord t d

/-- `Desc[d]` (10_state.md R22); none when the ROM holds no record under the id (log 8). -/
def Rom.record (r : Rom) : DescId → Option Descriptor
  | .real c => findRecord (r.desc.get (highNibble c).toFin) c
  | .unk => some r.unk

/-! ### The decode of one request -/

/-- `imm8`, `imm16` and the other fields of a `Decoded` record (10_state.md R27, 40_decode_operation.md R117). -/
def decodedRecord (address : Nat) (op : Byte) (d : DescId) (e : Descriptor) (operands : List Byte)
    (text : String) : DecodedRecord where
  address := address
  opcode := op
  descriptor := d
  mnemonic := e.mnemonic
  operation := text
  length := e.length.bytes
  bytesConsumed := e.length.bytes
  operands := operands
  imm8 := imm8Of e.operand operands
  imm16 := imm16Of e.operand operands
  flags := e.flags

/-- The fields of an `Unknown` record (10_state.md R28, 40_decode_operation.md R118). -/
def unknownRecord (address : Nat) (op : Byte) (e : Descriptor) (text : String) : UnknownRecord where
  address := address
  opcode := op
  descriptor := .unk
  mnemonic := e.mnemonic
  operation := text
  length := 1
  bytesConsumed := 1

/-- The fields of a `TruncInfo` (10_state.md R30): `present` is every byte from the opcode to the end of the buffer,
which is the whole window, since at most two bytes are left. -/
def truncInfo (r : Request) (op : Byte) (d : DescId) (required : Nat) : TruncInfo where
  address := r.offset
  opcode := op
  descriptor := d
  required := required
  available := r.n - r.offset
  present := r.window

/-- Steps 0 to 6 of the decode of R110 for the opcode `op` and the bytes that follow it: the range check (R111), the
lookup (R113), the bounds check (R114), the operand fetch (R115), the format stage (R116) and the result (R117, R118),
in the order of 60_exceptions.md R264. None when the ROMs do not hold the record this needs (log 8). -/
def answerOf (rom : Rom) (op : Byte) (following : List Byte) (r : Request) : Option DecodeOutcome :=
  if r.offset < r.n then
    let d := rom.lookup op
    match rom.record d with
    | none => none
    | some e =>
      if r.n < r.offset + e.length.bytes then some (.truncated (truncInfo r op d e.length.bytes))
      else
        match d with
        | .unk => (subst op [] e.operation).map fun text => .unknown (unknownRecord r.offset op e text)
        | .real _ =>
          let operands := following.take (e.length.bytes - 1)
          if operands.length + 1 = e.length.bytes then
            (subst op operands e.operation).map fun text =>
              .decoded (decodedRecord r.offset op d e operands text)
          else none
  else some (.outOfRange ⟨r.offset, r.n⟩)

/-! ### The delivery of an outcome -/

/-- `bytes_consumed`: defined for `Decoded` and `Unknown` only (10_state.md R27 to R30, 60_exceptions.md R265). -/
def DecodeOutcome.bytesConsumed : DecodeOutcome → Option Nat
  | .decoded r => some r.bytesConsumed
  | .unknown r => some r.bytesConsumed
  | .outOfRange _ => none
  | .truncated _ => none

/-- The outcome code (60_exceptions.md R260 to R263). -/
def DecodeOutcome.code : DecodeOutcome → BitVec 2
  | .decoded _ => 0
  | .unknown _ => 1
  | .outOfRange _ => 2
  | .truncated _ => 3

/-- The offset an outcome is about: `address`, or `offset` of `OutOfRangeInfo` (10_state.md R27 to R30). -/
def DecodeOutcome.address : DecodeOutcome → Nat
  | .decoded r => r.address
  | .unknown r => r.address
  | .outOfRange i => i.offset
  | .truncated i => i.address

/-- The caller's next offset: advanced by `bytes_consumed` where it is defined, otherwise not advanced
(10_state.md R32, 60_exceptions.md R265). -/
def cursorAfter (o : DecodeOutcome) (offset : Nat) : Nat := offset + o.bytesConsumed.getD 0

/-- Whether the reference walk presents another request after an outcome: it goes on after `Decoded` and `Unknown`
while the next offset is below `N`, and stops otherwise (40_decode_operation.md R123). -/
def goesOn (o : DecodeOutcome) (offset n : Nat) : Bool :=
  match o.bytesConsumed with
  | some c => decide (offset + c < n)
  | none => false

/-- The delivery of an outcome (60_exceptions.md R265) and the reference caller's turn (40_decode_operation.md R123):
the outcome is returned and appended to the walk's list, the cursor moves, and the walk goes on or stops. Nothing is
saved, masked or transferred; the ROMs and the buffer stay. There is no return from it (60_exceptions.md R267). DESIGN
CHOICE (log 22): the outcome is held in `outcome` until the next delivery, also after the walk has ended. DESIGN CHOICE
(log 23): the outcome is appended to `trace` outside a walk too. -/
def State.deliver (o : DecodeOutcome) (s : State) : State :=
  { s with
    offset := cursorAfter o s.offset
    requested := goesOn o s.offset s.n
    outcome := some o
    trace := s.trace ++ [o] }

/-- The answer to the state's request for the opcode `op` and the bytes that follow it, delivered. Every meaning is
this operation with its instruction's opcode and operand bytes. -/
def respond (op : Byte) (following : List Byte) (s : State) : Host.Outcome State Fault Refusal :=
  match answerOf s.rom op following s.request with
  | some o => .next (s.deliver o)
  | none => .fault .romNotLoaded

/-- The answer when the window holds no byte: `OutOfRange`, before any opcode is known
(40_decode_operation.md R111, 60_exceptions.md R260). -/
def respondOutOfRange (s : State) : Host.Outcome State Fault Refusal :=
  .next (s.deliver (.outOfRange ⟨s.offset, s.n⟩))

/-- Why the block cannot take the request: none is presented (70_reset_and_hazards.md R291), or its window changes
while it is in progress (20_memory.md R60). -/
def State.turnedAway (s : State) : Option Refusal :=
  if s.requested then (if s.steady then none else some .windowChanged) else some .noRequest

/-! ### What a caller may do -/

/-- The caller presents the bytes of a buffer and an offset in it (10_state.md R24, 70_reset_and_hazards.md R293). DESIGN
CHOICE (log 22): `outcome` holds the last answer until this request is answered. DESIGN CHOICE (log 23): a request
presented this way begins no walk, so `trace` keeps the outcomes it holds, and the answer is appended to them. -/
def State.submit (bytes : List Byte) (offset : Nat) (s : State) : State :=
  { s with
    buf := Memory.load [] 0 bytes
    n := bytes.length
    offset := offset
    requested := true
    steady := true }

/-- The caller starts the reference walk of a buffer: offset 0, an empty list, and a request only while the offset is
below `N` (40_decode_operation.md R123). DESIGN CHOICE (log 22): the list is cleared, and `outcome` holds the last answer
until the walk's first request is answered. -/
def State.startWalk (bytes : List Byte) (s : State) : State :=
  { s with
    buf := Memory.load [] 0 bytes
    n := bytes.length
    offset := 0
    requested := decide (0 < bytes.length)
    steady := true
    trace := [] }

/-- The caller writes a byte of the buffer between requests; an index outside the buffer names no byte
(20_memory.md R63, 70_reset_and_hazards.md R296). DESIGN CHOICE (log 21): a request already presented is not in progress
until the step that answers it, so this write may change a byte of its window, and that step reads the new byte; a write
that falls while the request is in progress is `State.writeDuring`. -/
def State.writeBetween (i : Nat) (b : Byte) (s : State) : State :=
  if i < s.n then { s with buf := Memory.write s.buf i b } else s

/-- Whether an index lies in the window of the present request, `offset .. min(N, offset + 3) - 1`
(70_reset_and_hazards.md R295). -/
def State.inWindow (s : State) (i : Nat) : Bool := decide (s.offset ≤ i ∧ i < min s.n (s.offset + 3))

/-- Another agent writes a byte of the buffer while the request is in progress: the window holds still unless a byte of
it changes (20_memory.md R60, 70_reset_and_hazards.md R295; log 6). -/
def State.writeDuring (i : Nat) (b : Byte) (s : State) : State :=
  { s.writeBetween i b with
    steady := s.steady && !(s.inWindow i && decide (Memory.read s.buf i ≠ b)) }

/-- Another agent changes the buffer's length while the request is in progress (70_reset_and_hazards.md R295; log 6). -/
def State.resizeDuring (n : Nat) (s : State) : State :=
  { s with
    buf := Memory.below s.buf n
    n := n
    steady := s.steady && decide (n = s.n) }

end Sys2Proof.Machine
end

