-- ==== Sys2Proof/Machine/Arithmetic.lean ====
section
/-!
DEFINITION. The arithmetic group (42_arithmetic.md): ADD, ADI, ADC, ACI, SUB, SUI, SBB, SBI, INR, DCR, INX, DCX, DAD, DAA. The meaning of each is the rule's pseudocode:
the decode of R110 for that opcode, with the descriptor the ROMs hold for it. The block decodes the instruction and
does not execute it (00_scope.md R5).
-/

namespace Sys2Proof.Machine

/-! 42_arithmetic.md R160 -/

/-- R160, opcode 0x80: `ADD B`, `(A) <= (A) + (B)`. -/
def execAddB (s : State) : Host.Outcome State Fault Refusal := respond 0x80 [] s

/-- R160, opcode 0x81: `ADD C`, `(A) <= (A) + (C)`. -/
def execAddC (s : State) : Host.Outcome State Fault Refusal := respond 0x81 [] s

/-- R160, opcode 0x82: `ADD D`, `(A) <= (A) + (D)`. -/
def execAddD (s : State) : Host.Outcome State Fault Refusal := respond 0x82 [] s

/-- R160, opcode 0x83: `ADD E`, `(A) <= (A) + (E)`. -/
def execAddE (s : State) : Host.Outcome State Fault Refusal := respond 0x83 [] s

/-- R160, opcode 0x84: `ADD H`, `(A) <= (A) + (H)`. -/
def execAddH (s : State) : Host.Outcome State Fault Refusal := respond 0x84 [] s

/-- R160, opcode 0x85: `ADD L`, `(A) <= (A) + (L)`. -/
def execAddL (s : State) : Host.Outcome State Fault Refusal := respond 0x85 [] s

/-- R160, opcode 0x87: `ADD A`, `(A) <= (A) + (A)`. -/
def execAddA (s : State) : Host.Outcome State Fault Refusal := respond 0x87 [] s

/-! 42_arithmetic.md R161 -/

/-- R161, opcode 0x86: `ADD M`, `(A) <= (A) + ((H) (L))`. -/
def execAddM (s : State) : Host.Outcome State Fault Refusal := respond 0x86 [] s

/-! 42_arithmetic.md R162 -/

/-- R162, opcode 0xC6: `ADI d8`, `(A) <= (A) + {b2}`. -/
def execAdi (b2 : Byte) (s : State) : Host.Outcome State Fault Refusal := respond 0xC6 [b2] s

/-! 42_arithmetic.md R163 -/

/-- R163, opcode 0x88: `ADC B`, `(A) <= (A) + (B) + (CY)`. -/
def execAdcB (s : State) : Host.Outcome State Fault Refusal := respond 0x88 [] s

/-- R163, opcode 0x89: `ADC C`, `(A) <= (A) + (C) + (CY)`. -/
def execAdcC (s : State) : Host.Outcome State Fault Refusal := respond 0x89 [] s

/-- R163, opcode 0x8A: `ADC D`, `(A) <= (A) + (D) + (CY)`. -/
def execAdcD (s : State) : Host.Outcome State Fault Refusal := respond 0x8A [] s

/-- R163, opcode 0x8B: `ADC E`, `(A) <= (A) + (E) + (CY)`. -/
def execAdcE (s : State) : Host.Outcome State Fault Refusal := respond 0x8B [] s

/-- R163, opcode 0x8C: `ADC H`, `(A) <= (A) + (H) + (CY)`. -/
def execAdcH (s : State) : Host.Outcome State Fault Refusal := respond 0x8C [] s

/-- R163, opcode 0x8D: `ADC L`, `(A) <= (A) + (L) + (CY)`. -/
def execAdcL (s : State) : Host.Outcome State Fault Refusal := respond 0x8D [] s

/-- R163, opcode 0x8F: `ADC A`, `(A) <= (A) + (A) + (CY)`. -/
def execAdcA (s : State) : Host.Outcome State Fault Refusal := respond 0x8F [] s

/-! 42_arithmetic.md R164 -/

/-- R164, opcode 0x8E: `ADC M`, `(A) <= (A) + ((H) (L)) + (CY)`. -/
def execAdcM (s : State) : Host.Outcome State Fault Refusal := respond 0x8E [] s

/-! 42_arithmetic.md R165 -/

/-- R165, opcode 0xCE: `ACI d8`, `(A) <= (A) + {b2} + (CY)`. -/
def execAci (b2 : Byte) (s : State) : Host.Outcome State Fault Refusal := respond 0xCE [b2] s

/-! 42_arithmetic.md R166 -/

/-- R166, opcode 0x90: `SUB B`, `(A) <= (A) - (B)`. -/
def execSubB (s : State) : Host.Outcome State Fault Refusal := respond 0x90 [] s

/-- R166, opcode 0x91: `SUB C`, `(A) <= (A) - (C)`. -/
def execSubC (s : State) : Host.Outcome State Fault Refusal := respond 0x91 [] s

/-- R166, opcode 0x92: `SUB D`, `(A) <= (A) - (D)`. -/
def execSubD (s : State) : Host.Outcome State Fault Refusal := respond 0x92 [] s

/-- R166, opcode 0x93: `SUB E`, `(A) <= (A) - (E)`. -/
def execSubE (s : State) : Host.Outcome State Fault Refusal := respond 0x93 [] s

/-- R166, opcode 0x94: `SUB H`, `(A) <= (A) - (H)`. -/
def execSubH (s : State) : Host.Outcome State Fault Refusal := respond 0x94 [] s

/-- R166, opcode 0x95: `SUB L`, `(A) <= (A) - (L)`. -/
def execSubL (s : State) : Host.Outcome State Fault Refusal := respond 0x95 [] s

/-- R166, opcode 0x97: `SUB A`, `(A) <= (A) - (A)`. -/
def execSubA (s : State) : Host.Outcome State Fault Refusal := respond 0x97 [] s

/-! 42_arithmetic.md R167 -/

/-- R167, opcode 0x96: `SUB M`, `(A) <= (A) - ((H) (L))`. -/
def execSubM (s : State) : Host.Outcome State Fault Refusal := respond 0x96 [] s

/-! 42_arithmetic.md R168 -/

/-- R168, opcode 0xD6: `SUI d8`, `(A) <= (A) - {b2}`. -/
def execSui (b2 : Byte) (s : State) : Host.Outcome State Fault Refusal := respond 0xD6 [b2] s

/-! 42_arithmetic.md R169 -/

/-- R169, opcode 0x98: `SBB B`, `(A) <= (A) - (B) - (CY)`. -/
def execSbbB (s : State) : Host.Outcome State Fault Refusal := respond 0x98 [] s

/-- R169, opcode 0x99: `SBB C`, `(A) <= (A) - (C) - (CY)`. -/
def execSbbC (s : State) : Host.Outcome State Fault Refusal := respond 0x99 [] s

/-- R169, opcode 0x9A: `SBB D`, `(A) <= (A) - (D) - (CY)`. -/
def execSbbD (s : State) : Host.Outcome State Fault Refusal := respond 0x9A [] s

/-- R169, opcode 0x9B: `SBB E`, `(A) <= (A) - (E) - (CY)`. -/
def execSbbE (s : State) : Host.Outcome State Fault Refusal := respond 0x9B [] s

/-- R169, opcode 0x9C: `SBB H`, `(A) <= (A) - (H) - (CY)`. -/
def execSbbH (s : State) : Host.Outcome State Fault Refusal := respond 0x9C [] s

/-- R169, opcode 0x9D: `SBB L`, `(A) <= (A) - (L) - (CY)`. -/
def execSbbL (s : State) : Host.Outcome State Fault Refusal := respond 0x9D [] s

/-- R169, opcode 0x9F: `SBB A`, `(A) <= (A) - (A) - (CY)`. -/
def execSbbA (s : State) : Host.Outcome State Fault Refusal := respond 0x9F [] s

/-! 42_arithmetic.md R170 -/

/-- R170, opcode 0x9E: `SBB M`, `(A) <= (A) - ((H) (L)) - (CY)`. -/
def execSbbM (s : State) : Host.Outcome State Fault Refusal := respond 0x9E [] s

/-! 42_arithmetic.md R171 -/

/-- R171, opcode 0xDE: `SBI d8`, `(A) <= (A) - {b2} - (CY)`. -/
def execSbi (b2 : Byte) (s : State) : Host.Outcome State Fault Refusal := respond 0xDE [b2] s

/-! 42_arithmetic.md R172 -/

/-- R172, opcode 0x04: `INR B`, `(B) <= (B) + 1`. -/
def execInrB (s : State) : Host.Outcome State Fault Refusal := respond 0x04 [] s

/-- R172, opcode 0x0C: `INR C`, `(C) <= (C) + 1`. -/
def execInrC (s : State) : Host.Outcome State Fault Refusal := respond 0x0C [] s

/-- R172, opcode 0x14: `INR D`, `(D) <= (D) + 1`. -/
def execInrD (s : State) : Host.Outcome State Fault Refusal := respond 0x14 [] s

/-- R172, opcode 0x1C: `INR E`, `(E) <= (E) + 1`. -/
def execInrE (s : State) : Host.Outcome State Fault Refusal := respond 0x1C [] s

/-- R172, opcode 0x24: `INR H`, `(H) <= (H) + 1`. -/
def execInrH (s : State) : Host.Outcome State Fault Refusal := respond 0x24 [] s

/-- R172, opcode 0x2C: `INR L`, `(L) <= (L) + 1`. -/
def execInrL (s : State) : Host.Outcome State Fault Refusal := respond 0x2C [] s

/-- R172, opcode 0x3C: `INR A`, `(A) <= (A) + 1`. -/
def execInrA (s : State) : Host.Outcome State Fault Refusal := respond 0x3C [] s

/-! 42_arithmetic.md R173 -/

/-- R173, opcode 0x34: `INR M`, `((H) (L)) <= ((H) (L)) + 1`. -/
def execInrM (s : State) : Host.Outcome State Fault Refusal := respond 0x34 [] s

/-! 42_arithmetic.md R174 -/

/-- R174, opcode 0x05: `DCR B`, `(B) <= (B) - 1`. -/
def execDcrB (s : State) : Host.Outcome State Fault Refusal := respond 0x05 [] s

/-- R174, opcode 0x0D: `DCR C`, `(C) <= (C) - 1`. -/
def execDcrC (s : State) : Host.Outcome State Fault Refusal := respond 0x0D [] s

/-- R174, opcode 0x15: `DCR D`, `(D) <= (D) - 1`. -/
def execDcrD (s : State) : Host.Outcome State Fault Refusal := respond 0x15 [] s

/-- R174, opcode 0x1D: `DCR E`, `(E) <= (E) - 1`. -/
def execDcrE (s : State) : Host.Outcome State Fault Refusal := respond 0x1D [] s

/-- R174, opcode 0x25: `DCR H`, `(H) <= (H) - 1`. -/
def execDcrH (s : State) : Host.Outcome State Fault Refusal := respond 0x25 [] s

/-- R174, opcode 0x2D: `DCR L`, `(L) <= (L) - 1`. -/
def execDcrL (s : State) : Host.Outcome State Fault Refusal := respond 0x2D [] s

/-- R174, opcode 0x3D: `DCR A`, `(A) <= (A) - 1`. -/
def execDcrA (s : State) : Host.Outcome State Fault Refusal := respond 0x3D [] s

/-! 42_arithmetic.md R175 -/

/-- R175, opcode 0x35: `DCR M`, `((H) (L)) <= ((H) (L)) - 1`. -/
def execDcrM (s : State) : Host.Outcome State Fault Refusal := respond 0x35 [] s

/-! 42_arithmetic.md R176 -/

/-- R176, opcode 0x03: `INX B`, `(B) (C) <= (B) (C) + 1`. -/
def execInxB (s : State) : Host.Outcome State Fault Refusal := respond 0x03 [] s

/-- R176, opcode 0x13: `INX D`, `(D) (E) <= (D) (E) + 1`. -/
def execInxD (s : State) : Host.Outcome State Fault Refusal := respond 0x13 [] s

/-- R176, opcode 0x23: `INX H`, `(H) (L) <= (H) (L) + 1`. -/
def execInxH (s : State) : Host.Outcome State Fault Refusal := respond 0x23 [] s

/-! 42_arithmetic.md R177 -/

/-- R177, opcode 0x33: `INX SP`, `(SP) <= (SP) + 1`. -/
def execInxSP (s : State) : Host.Outcome State Fault Refusal := respond 0x33 [] s

/-! 42_arithmetic.md R178 -/

/-- R178, opcode 0x0B: `DCX B`, `(B) (C) <= (B) (C) - 1`. -/
def execDcxB (s : State) : Host.Outcome State Fault Refusal := respond 0x0B [] s

/-- R178, opcode 0x1B: `DCX D`, `(D) (E) <= (D) (E) - 1`. -/
def execDcxD (s : State) : Host.Outcome State Fault Refusal := respond 0x1B [] s

/-- R178, opcode 0x2B: `DCX H`, `(H) (L) <= (H) (L) - 1`. -/
def execDcxH (s : State) : Host.Outcome State Fault Refusal := respond 0x2B [] s

/-! 42_arithmetic.md R179 -/

/-- R179, opcode 0x3B: `DCX SP`, `(SP) <= (SP) - 1`. -/
def execDcxSP (s : State) : Host.Outcome State Fault Refusal := respond 0x3B [] s

/-! 42_arithmetic.md R180 -/

/-- R180, opcode 0x09: `DAD B`, `(H) (L) <= (H) (L) + (B) (C)`. -/
def execDadB (s : State) : Host.Outcome State Fault Refusal := respond 0x09 [] s

/-- R180, opcode 0x19: `DAD D`, `(H) (L) <= (H) (L) + (D) (E)`. -/
def execDadD (s : State) : Host.Outcome State Fault Refusal := respond 0x19 [] s

/-- R180, opcode 0x29: `DAD H`, `(H) (L) <= (H) (L) + (H) (L)`. -/
def execDadH (s : State) : Host.Outcome State Fault Refusal := respond 0x29 [] s

/-! 42_arithmetic.md R181 -/

/-- R181, opcode 0x39: `DAD SP`, `(H) (L) <= (H) (L) + (SP)`. -/
def execDadSP (s : State) : Host.Outcome State Fault Refusal := respond 0x39 [] s

/-! 42_arithmetic.md R182 -/

/-- R182, opcode 0x27: `DAA`, `(A) <= decimal adjust (A)`. -/
def execDaa (s : State) : Host.Outcome State Fault Refusal := respond 0x27 [] s

end Sys2Proof.Machine
end

