-- ==== Sys2Proof/Machine/Branch.lean ====
section
/-!
DEFINITION. The branch group (44_branch.md): JMP, Jcondition, CALL, Ccondition, RET, Rcondition, RST, PCHL. The meaning of each is the rule's pseudocode:
the decode of R110 for that opcode, with the descriptor the ROMs hold for it. The block decodes the instruction and
does not execute it (00_scope.md R5).
-/

namespace Sys2Proof.Machine

/-! 44_branch.md R220 -/

/-- R220, opcode 0xC3: `JMP a16`, `(PC) <= {a16}`. -/
def execJmpC3 (b2 b3 : Byte) (s : State) : Host.Outcome State Fault Refusal := respond 0xC3 [b2, b3] s

/-- R220, opcode 0xCB, descriptor 0xC3: `JMP a16`, `(PC) <= {a16}`. -/
def execJmpCB (b2 b3 : Byte) (s : State) : Host.Outcome State Fault Refusal := respond 0xCB [b2, b3] s

/-! 44_branch.md R221 -/

/-- R221, opcode 0xC2: `JNZ a16`, `if NZ then (PC) <= {a16}`. -/
def execJnz (b2 b3 : Byte) (s : State) : Host.Outcome State Fault Refusal := respond 0xC2 [b2, b3] s

/-- R221, opcode 0xCA: `JZ a16`, `if Z then (PC) <= {a16}`. -/
def execJz (b2 b3 : Byte) (s : State) : Host.Outcome State Fault Refusal := respond 0xCA [b2, b3] s

/-- R221, opcode 0xD2: `JNC a16`, `if NC then (PC) <= {a16}`. -/
def execJnc (b2 b3 : Byte) (s : State) : Host.Outcome State Fault Refusal := respond 0xD2 [b2, b3] s

/-- R221, opcode 0xDA: `JC a16`, `if C then (PC) <= {a16}`. -/
def execJc (b2 b3 : Byte) (s : State) : Host.Outcome State Fault Refusal := respond 0xDA [b2, b3] s

/-- R221, opcode 0xE2: `JPO a16`, `if PO then (PC) <= {a16}`. -/
def execJpo (b2 b3 : Byte) (s : State) : Host.Outcome State Fault Refusal := respond 0xE2 [b2, b3] s

/-- R221, opcode 0xEA: `JPE a16`, `if PE then (PC) <= {a16}`. -/
def execJpe (b2 b3 : Byte) (s : State) : Host.Outcome State Fault Refusal := respond 0xEA [b2, b3] s

/-- R221, opcode 0xF2: `JP a16`, `if P then (PC) <= {a16}`. -/
def execJp (b2 b3 : Byte) (s : State) : Host.Outcome State Fault Refusal := respond 0xF2 [b2, b3] s

/-- R221, opcode 0xFA: `JM a16`, `if M then (PC) <= {a16}`. -/
def execJm (b2 b3 : Byte) (s : State) : Host.Outcome State Fault Refusal := respond 0xFA [b2, b3] s

/-! 44_branch.md R222 -/

/-- R222, opcode 0xCD: `CALL a16`, `((SP) - 1) <= (PCH), ((SP) - 2) <= (PCL), (SP) <= (SP) - 2, (PC) <= {a16}`. -/
def execCallCD (b2 b3 : Byte) (s : State) : Host.Outcome State Fault Refusal := respond 0xCD [b2, b3] s

/-- R222, opcode 0xDD, descriptor 0xCD: `CALL a16`, `((SP) - 1) <= (PCH), ((SP) - 2) <= (PCL), (SP) <= (SP) - 2, (PC) <= {a16}`. -/
def execCallDD (b2 b3 : Byte) (s : State) : Host.Outcome State Fault Refusal := respond 0xDD [b2, b3] s

/-- R222, opcode 0xED, descriptor 0xCD: `CALL a16`, `((SP) - 1) <= (PCH), ((SP) - 2) <= (PCL), (SP) <= (SP) - 2, (PC) <= {a16}`. -/
def execCallED (b2 b3 : Byte) (s : State) : Host.Outcome State Fault Refusal := respond 0xED [b2, b3] s

/-- R222, opcode 0xFD, descriptor 0xCD: `CALL a16`, `((SP) - 1) <= (PCH), ((SP) - 2) <= (PCL), (SP) <= (SP) - 2, (PC) <= {a16}`. -/
def execCallFD (b2 b3 : Byte) (s : State) : Host.Outcome State Fault Refusal := respond 0xFD [b2, b3] s

/-! 44_branch.md R223 -/

/-- R223, opcode 0xC4: `CNZ a16`, `if NZ then ((SP) - 1) <= (PCH), ((SP) - 2) <= (PCL), (SP) <= (SP) - 2, (PC) <= {a16}`. -/
def execCnz (b2 b3 : Byte) (s : State) : Host.Outcome State Fault Refusal := respond 0xC4 [b2, b3] s

/-- R223, opcode 0xCC: `CZ a16`, `if Z then ((SP) - 1) <= (PCH), ((SP) - 2) <= (PCL), (SP) <= (SP) - 2, (PC) <= {a16}`. -/
def execCz (b2 b3 : Byte) (s : State) : Host.Outcome State Fault Refusal := respond 0xCC [b2, b3] s

/-- R223, opcode 0xD4: `CNC a16`, `if NC then ((SP) - 1) <= (PCH), ((SP) - 2) <= (PCL), (SP) <= (SP) - 2, (PC) <= {a16}`. -/
def execCnc (b2 b3 : Byte) (s : State) : Host.Outcome State Fault Refusal := respond 0xD4 [b2, b3] s

/-- R223, opcode 0xDC: `CC a16`, `if C then ((SP) - 1) <= (PCH), ((SP) - 2) <= (PCL), (SP) <= (SP) - 2, (PC) <= {a16}`. -/
def execCc (b2 b3 : Byte) (s : State) : Host.Outcome State Fault Refusal := respond 0xDC [b2, b3] s

/-- R223, opcode 0xE4: `CPO a16`, `if PO then ((SP) - 1) <= (PCH), ((SP) - 2) <= (PCL), (SP) <= (SP) - 2, (PC) <= {a16}`. -/
def execCpo (b2 b3 : Byte) (s : State) : Host.Outcome State Fault Refusal := respond 0xE4 [b2, b3] s

/-- R223, opcode 0xEC: `CPE a16`, `if PE then ((SP) - 1) <= (PCH), ((SP) - 2) <= (PCL), (SP) <= (SP) - 2, (PC) <= {a16}`. -/
def execCpe (b2 b3 : Byte) (s : State) : Host.Outcome State Fault Refusal := respond 0xEC [b2, b3] s

/-- R223, opcode 0xF4: `CP a16`, `if P then ((SP) - 1) <= (PCH), ((SP) - 2) <= (PCL), (SP) <= (SP) - 2, (PC) <= {a16}`. -/
def execCp (b2 b3 : Byte) (s : State) : Host.Outcome State Fault Refusal := respond 0xF4 [b2, b3] s

/-- R223, opcode 0xFC: `CM a16`, `if M then ((SP) - 1) <= (PCH), ((SP) - 2) <= (PCL), (SP) <= (SP) - 2, (PC) <= {a16}`. -/
def execCm (b2 b3 : Byte) (s : State) : Host.Outcome State Fault Refusal := respond 0xFC [b2, b3] s

/-! 44_branch.md R224 -/

/-- R224, opcode 0xC9: `RET`, `(PCL) <= ((SP)), (PCH) <= ((SP) + 1), (SP) <= (SP) + 2`. -/
def execRetC9 (s : State) : Host.Outcome State Fault Refusal := respond 0xC9 [] s

/-- R224, opcode 0xD9, descriptor 0xC9: `RET`, `(PCL) <= ((SP)), (PCH) <= ((SP) + 1), (SP) <= (SP) + 2`. -/
def execRetD9 (s : State) : Host.Outcome State Fault Refusal := respond 0xD9 [] s

/-! 44_branch.md R225 -/

/-- R225, opcode 0xC0: `RNZ`, `if NZ then (PCL) <= ((SP)), (PCH) <= ((SP) + 1), (SP) <= (SP) + 2`. -/
def execRnz (s : State) : Host.Outcome State Fault Refusal := respond 0xC0 [] s

/-- R225, opcode 0xC8: `RZ`, `if Z then (PCL) <= ((SP)), (PCH) <= ((SP) + 1), (SP) <= (SP) + 2`. -/
def execRz (s : State) : Host.Outcome State Fault Refusal := respond 0xC8 [] s

/-- R225, opcode 0xD0: `RNC`, `if NC then (PCL) <= ((SP)), (PCH) <= ((SP) + 1), (SP) <= (SP) + 2`. -/
def execRnc (s : State) : Host.Outcome State Fault Refusal := respond 0xD0 [] s

/-- R225, opcode 0xD8: `RC`, `if C then (PCL) <= ((SP)), (PCH) <= ((SP) + 1), (SP) <= (SP) + 2`. -/
def execRc (s : State) : Host.Outcome State Fault Refusal := respond 0xD8 [] s

/-- R225, opcode 0xE0: `RPO`, `if PO then (PCL) <= ((SP)), (PCH) <= ((SP) + 1), (SP) <= (SP) + 2`. -/
def execRpo (s : State) : Host.Outcome State Fault Refusal := respond 0xE0 [] s

/-- R225, opcode 0xE8: `RPE`, `if PE then (PCL) <= ((SP)), (PCH) <= ((SP) + 1), (SP) <= (SP) + 2`. -/
def execRpe (s : State) : Host.Outcome State Fault Refusal := respond 0xE8 [] s

/-- R225, opcode 0xF0: `RP`, `if P then (PCL) <= ((SP)), (PCH) <= ((SP) + 1), (SP) <= (SP) + 2`. -/
def execRp (s : State) : Host.Outcome State Fault Refusal := respond 0xF0 [] s

/-- R225, opcode 0xF8: `RM`, `if M then (PCL) <= ((SP)), (PCH) <= ((SP) + 1), (SP) <= (SP) + 2`. -/
def execRm (s : State) : Host.Outcome State Fault Refusal := respond 0xF8 [] s

/-! 44_branch.md R226 -/

/-- R226, opcode 0xC7: `RST 0`, `((SP) - 1) <= (PCH), ((SP) - 2) <= (PCL), (SP) <= (SP) - 2, (PC) <= #$0000`. -/
def execRst0 (s : State) : Host.Outcome State Fault Refusal := respond 0xC7 [] s

/-- R226, opcode 0xCF: `RST 1`, `((SP) - 1) <= (PCH), ((SP) - 2) <= (PCL), (SP) <= (SP) - 2, (PC) <= #$0008`. -/
def execRst1 (s : State) : Host.Outcome State Fault Refusal := respond 0xCF [] s

/-- R226, opcode 0xD7: `RST 2`, `((SP) - 1) <= (PCH), ((SP) - 2) <= (PCL), (SP) <= (SP) - 2, (PC) <= #$0010`. -/
def execRst2 (s : State) : Host.Outcome State Fault Refusal := respond 0xD7 [] s

/-- R226, opcode 0xDF: `RST 3`, `((SP) - 1) <= (PCH), ((SP) - 2) <= (PCL), (SP) <= (SP) - 2, (PC) <= #$0018`. -/
def execRst3 (s : State) : Host.Outcome State Fault Refusal := respond 0xDF [] s

/-- R226, opcode 0xE7: `RST 4`, `((SP) - 1) <= (PCH), ((SP) - 2) <= (PCL), (SP) <= (SP) - 2, (PC) <= #$0020`. -/
def execRst4 (s : State) : Host.Outcome State Fault Refusal := respond 0xE7 [] s

/-- R226, opcode 0xEF: `RST 5`, `((SP) - 1) <= (PCH), ((SP) - 2) <= (PCL), (SP) <= (SP) - 2, (PC) <= #$0028`. -/
def execRst5 (s : State) : Host.Outcome State Fault Refusal := respond 0xEF [] s

/-- R226, opcode 0xF7: `RST 6`, `((SP) - 1) <= (PCH), ((SP) - 2) <= (PCL), (SP) <= (SP) - 2, (PC) <= #$0030`. -/
def execRst6 (s : State) : Host.Outcome State Fault Refusal := respond 0xF7 [] s

/-- R226, opcode 0xFF: `RST 7`, `((SP) - 1) <= (PCH), ((SP) - 2) <= (PCL), (SP) <= (SP) - 2, (PC) <= #$0038`. -/
def execRst7 (s : State) : Host.Outcome State Fault Refusal := respond 0xFF [] s

/-! 44_branch.md R227 -/

/-- R227, opcode 0xE9: `PCHL`, `(PCH) <= (H), (PCL) <= (L)`. -/
def execPchl (s : State) : Host.Outcome State Fault Refusal := respond 0xE9 [] s

end Sys2Proof.Machine
end

