-- ==== Sys2Proof/Machine/DataTransfer.lean ====
section
/-!
DEFINITION. The data transfer group (41_data_transfer.md): MOV, MVI, LXI, LDA, STA, LHLD, SHLD, LDAX, STAX, XCHG. The meaning of each is the rule's pseudocode:
the decode of R110 for that opcode, with the descriptor the ROMs hold for it. The block decodes the instruction and
does not execute it (00_scope.md R5).
-/

namespace Sys2Proof.Machine

/-! 41_data_transfer.md R140 -/

/-- R140, opcode 0x40: `MOV B, B`, `(B) <= (B)`. -/
def execMovBB (s : State) : Host.Outcome State Fault Refusal := respond 0x40 [] s

/-- R140, opcode 0x41: `MOV B, C`, `(B) <= (C)`. -/
def execMovBC (s : State) : Host.Outcome State Fault Refusal := respond 0x41 [] s

/-- R140, opcode 0x42: `MOV B, D`, `(B) <= (D)`. -/
def execMovBD (s : State) : Host.Outcome State Fault Refusal := respond 0x42 [] s

/-- R140, opcode 0x43: `MOV B, E`, `(B) <= (E)`. -/
def execMovBE (s : State) : Host.Outcome State Fault Refusal := respond 0x43 [] s

/-- R140, opcode 0x44: `MOV B, H`, `(B) <= (H)`. -/
def execMovBH (s : State) : Host.Outcome State Fault Refusal := respond 0x44 [] s

/-- R140, opcode 0x45: `MOV B, L`, `(B) <= (L)`. -/
def execMovBL (s : State) : Host.Outcome State Fault Refusal := respond 0x45 [] s

/-- R140, opcode 0x47: `MOV B, A`, `(B) <= (A)`. -/
def execMovBA (s : State) : Host.Outcome State Fault Refusal := respond 0x47 [] s

/-- R140, opcode 0x48: `MOV C, B`, `(C) <= (B)`. -/
def execMovCB (s : State) : Host.Outcome State Fault Refusal := respond 0x48 [] s

/-- R140, opcode 0x49: `MOV C, C`, `(C) <= (C)`. -/
def execMovCC (s : State) : Host.Outcome State Fault Refusal := respond 0x49 [] s

/-- R140, opcode 0x4A: `MOV C, D`, `(C) <= (D)`. -/
def execMovCD (s : State) : Host.Outcome State Fault Refusal := respond 0x4A [] s

/-- R140, opcode 0x4B: `MOV C, E`, `(C) <= (E)`. -/
def execMovCE (s : State) : Host.Outcome State Fault Refusal := respond 0x4B [] s

/-- R140, opcode 0x4C: `MOV C, H`, `(C) <= (H)`. -/
def execMovCH (s : State) : Host.Outcome State Fault Refusal := respond 0x4C [] s

/-- R140, opcode 0x4D: `MOV C, L`, `(C) <= (L)`. -/
def execMovCL (s : State) : Host.Outcome State Fault Refusal := respond 0x4D [] s

/-- R140, opcode 0x4F: `MOV C, A`, `(C) <= (A)`. -/
def execMovCA (s : State) : Host.Outcome State Fault Refusal := respond 0x4F [] s

/-- R140, opcode 0x50: `MOV D, B`, `(D) <= (B)`. -/
def execMovDB (s : State) : Host.Outcome State Fault Refusal := respond 0x50 [] s

/-- R140, opcode 0x51: `MOV D, C`, `(D) <= (C)`. -/
def execMovDC (s : State) : Host.Outcome State Fault Refusal := respond 0x51 [] s

/-- R140, opcode 0x52: `MOV D, D`, `(D) <= (D)`. -/
def execMovDD (s : State) : Host.Outcome State Fault Refusal := respond 0x52 [] s

/-- R140, opcode 0x53: `MOV D, E`, `(D) <= (E)`. -/
def execMovDE (s : State) : Host.Outcome State Fault Refusal := respond 0x53 [] s

/-- R140, opcode 0x54: `MOV D, H`, `(D) <= (H)`. -/
def execMovDH (s : State) : Host.Outcome State Fault Refusal := respond 0x54 [] s

/-- R140, opcode 0x55: `MOV D, L`, `(D) <= (L)`. -/
def execMovDL (s : State) : Host.Outcome State Fault Refusal := respond 0x55 [] s

/-- R140, opcode 0x57: `MOV D, A`, `(D) <= (A)`. -/
def execMovDA (s : State) : Host.Outcome State Fault Refusal := respond 0x57 [] s

/-- R140, opcode 0x58: `MOV E, B`, `(E) <= (B)`. -/
def execMovEB (s : State) : Host.Outcome State Fault Refusal := respond 0x58 [] s

/-- R140, opcode 0x59: `MOV E, C`, `(E) <= (C)`. -/
def execMovEC (s : State) : Host.Outcome State Fault Refusal := respond 0x59 [] s

/-- R140, opcode 0x5A: `MOV E, D`, `(E) <= (D)`. -/
def execMovED (s : State) : Host.Outcome State Fault Refusal := respond 0x5A [] s

/-- R140, opcode 0x5B: `MOV E, E`, `(E) <= (E)`. -/
def execMovEE (s : State) : Host.Outcome State Fault Refusal := respond 0x5B [] s

/-- R140, opcode 0x5C: `MOV E, H`, `(E) <= (H)`. -/
def execMovEH (s : State) : Host.Outcome State Fault Refusal := respond 0x5C [] s

/-- R140, opcode 0x5D: `MOV E, L`, `(E) <= (L)`. -/
def execMovEL (s : State) : Host.Outcome State Fault Refusal := respond 0x5D [] s

/-- R140, opcode 0x5F: `MOV E, A`, `(E) <= (A)`. -/
def execMovEA (s : State) : Host.Outcome State Fault Refusal := respond 0x5F [] s

/-- R140, opcode 0x60: `MOV H, B`, `(H) <= (B)`. -/
def execMovHB (s : State) : Host.Outcome State Fault Refusal := respond 0x60 [] s

/-- R140, opcode 0x61: `MOV H, C`, `(H) <= (C)`. -/
def execMovHC (s : State) : Host.Outcome State Fault Refusal := respond 0x61 [] s

/-- R140, opcode 0x62: `MOV H, D`, `(H) <= (D)`. -/
def execMovHD (s : State) : Host.Outcome State Fault Refusal := respond 0x62 [] s

/-- R140, opcode 0x63: `MOV H, E`, `(H) <= (E)`. -/
def execMovHE (s : State) : Host.Outcome State Fault Refusal := respond 0x63 [] s

/-- R140, opcode 0x64: `MOV H, H`, `(H) <= (H)`. -/
def execMovHH (s : State) : Host.Outcome State Fault Refusal := respond 0x64 [] s

/-- R140, opcode 0x65: `MOV H, L`, `(H) <= (L)`. -/
def execMovHL (s : State) : Host.Outcome State Fault Refusal := respond 0x65 [] s

/-- R140, opcode 0x67: `MOV H, A`, `(H) <= (A)`. -/
def execMovHA (s : State) : Host.Outcome State Fault Refusal := respond 0x67 [] s

/-- R140, opcode 0x68: `MOV L, B`, `(L) <= (B)`. -/
def execMovLB (s : State) : Host.Outcome State Fault Refusal := respond 0x68 [] s

/-- R140, opcode 0x69: `MOV L, C`, `(L) <= (C)`. -/
def execMovLC (s : State) : Host.Outcome State Fault Refusal := respond 0x69 [] s

/-- R140, opcode 0x6A: `MOV L, D`, `(L) <= (D)`. -/
def execMovLD (s : State) : Host.Outcome State Fault Refusal := respond 0x6A [] s

/-- R140, opcode 0x6B: `MOV L, E`, `(L) <= (E)`. -/
def execMovLE (s : State) : Host.Outcome State Fault Refusal := respond 0x6B [] s

/-- R140, opcode 0x6C: `MOV L, H`, `(L) <= (H)`. -/
def execMovLH (s : State) : Host.Outcome State Fault Refusal := respond 0x6C [] s

/-- R140, opcode 0x6D: `MOV L, L`, `(L) <= (L)`. -/
def execMovLL (s : State) : Host.Outcome State Fault Refusal := respond 0x6D [] s

/-- R140, opcode 0x6F: `MOV L, A`, `(L) <= (A)`. -/
def execMovLA (s : State) : Host.Outcome State Fault Refusal := respond 0x6F [] s

/-- R140, opcode 0x78: `MOV A, B`, `(A) <= (B)`. -/
def execMovAB (s : State) : Host.Outcome State Fault Refusal := respond 0x78 [] s

/-- R140, opcode 0x79: `MOV A, C`, `(A) <= (C)`. -/
def execMovAC (s : State) : Host.Outcome State Fault Refusal := respond 0x79 [] s

/-- R140, opcode 0x7A: `MOV A, D`, `(A) <= (D)`. -/
def execMovAD (s : State) : Host.Outcome State Fault Refusal := respond 0x7A [] s

/-- R140, opcode 0x7B: `MOV A, E`, `(A) <= (E)`. -/
def execMovAE (s : State) : Host.Outcome State Fault Refusal := respond 0x7B [] s

/-- R140, opcode 0x7C: `MOV A, H`, `(A) <= (H)`. -/
def execMovAH (s : State) : Host.Outcome State Fault Refusal := respond 0x7C [] s

/-- R140, opcode 0x7D: `MOV A, L`, `(A) <= (L)`. -/
def execMovAL (s : State) : Host.Outcome State Fault Refusal := respond 0x7D [] s

/-- R140, opcode 0x7F: `MOV A, A`, `(A) <= (A)`. -/
def execMovAA (s : State) : Host.Outcome State Fault Refusal := respond 0x7F [] s

/-! 41_data_transfer.md R141 -/

/-- R141, opcode 0x46: `MOV B, M`, `(B) <= ((H) (L))`. -/
def execMovBM (s : State) : Host.Outcome State Fault Refusal := respond 0x46 [] s

/-- R141, opcode 0x4E: `MOV C, M`, `(C) <= ((H) (L))`. -/
def execMovCM (s : State) : Host.Outcome State Fault Refusal := respond 0x4E [] s

/-- R141, opcode 0x56: `MOV D, M`, `(D) <= ((H) (L))`. -/
def execMovDM (s : State) : Host.Outcome State Fault Refusal := respond 0x56 [] s

/-- R141, opcode 0x5E: `MOV E, M`, `(E) <= ((H) (L))`. -/
def execMovEM (s : State) : Host.Outcome State Fault Refusal := respond 0x5E [] s

/-- R141, opcode 0x66: `MOV H, M`, `(H) <= ((H) (L))`. -/
def execMovHM (s : State) : Host.Outcome State Fault Refusal := respond 0x66 [] s

/-- R141, opcode 0x6E: `MOV L, M`, `(L) <= ((H) (L))`. -/
def execMovLM (s : State) : Host.Outcome State Fault Refusal := respond 0x6E [] s

/-- R141, opcode 0x7E: `MOV A, M`, `(A) <= ((H) (L))`. -/
def execMovAM (s : State) : Host.Outcome State Fault Refusal := respond 0x7E [] s

/-! 41_data_transfer.md R142 -/

/-- R142, opcode 0x70: `MOV M, B`, `((H) (L)) <= (B)`. -/
def execMovMB (s : State) : Host.Outcome State Fault Refusal := respond 0x70 [] s

/-- R142, opcode 0x71: `MOV M, C`, `((H) (L)) <= (C)`. -/
def execMovMC (s : State) : Host.Outcome State Fault Refusal := respond 0x71 [] s

/-- R142, opcode 0x72: `MOV M, D`, `((H) (L)) <= (D)`. -/
def execMovMD (s : State) : Host.Outcome State Fault Refusal := respond 0x72 [] s

/-- R142, opcode 0x73: `MOV M, E`, `((H) (L)) <= (E)`. -/
def execMovME (s : State) : Host.Outcome State Fault Refusal := respond 0x73 [] s

/-- R142, opcode 0x74: `MOV M, H`, `((H) (L)) <= (H)`. -/
def execMovMH (s : State) : Host.Outcome State Fault Refusal := respond 0x74 [] s

/-- R142, opcode 0x75: `MOV M, L`, `((H) (L)) <= (L)`. -/
def execMovML (s : State) : Host.Outcome State Fault Refusal := respond 0x75 [] s

/-- R142, opcode 0x77: `MOV M, A`, `((H) (L)) <= (A)`. -/
def execMovMA (s : State) : Host.Outcome State Fault Refusal := respond 0x77 [] s

/-! 41_data_transfer.md R143 -/

/-- R143, opcode 0x06: `MVI B, d8`, `(B) <= {b2}`. -/
def execMviB (b2 : Byte) (s : State) : Host.Outcome State Fault Refusal := respond 0x06 [b2] s

/-- R143, opcode 0x0E: `MVI C, d8`, `(C) <= {b2}`. -/
def execMviC (b2 : Byte) (s : State) : Host.Outcome State Fault Refusal := respond 0x0E [b2] s

/-- R143, opcode 0x16: `MVI D, d8`, `(D) <= {b2}`. -/
def execMviD (b2 : Byte) (s : State) : Host.Outcome State Fault Refusal := respond 0x16 [b2] s

/-- R143, opcode 0x1E: `MVI E, d8`, `(E) <= {b2}`. -/
def execMviE (b2 : Byte) (s : State) : Host.Outcome State Fault Refusal := respond 0x1E [b2] s

/-- R143, opcode 0x26: `MVI H, d8`, `(H) <= {b2}`. -/
def execMviH (b2 : Byte) (s : State) : Host.Outcome State Fault Refusal := respond 0x26 [b2] s

/-- R143, opcode 0x2E: `MVI L, d8`, `(L) <= {b2}`. -/
def execMviL (b2 : Byte) (s : State) : Host.Outcome State Fault Refusal := respond 0x2E [b2] s

/-- R143, opcode 0x3E: `MVI A, d8`, `(A) <= {b2}`. -/
def execMviA (b2 : Byte) (s : State) : Host.Outcome State Fault Refusal := respond 0x3E [b2] s

/-! 41_data_transfer.md R144 -/

/-- R144, opcode 0x36: `MVI M, d8`, `((H) (L)) <= {b2}`. -/
def execMviM (b2 : Byte) (s : State) : Host.Outcome State Fault Refusal := respond 0x36 [b2] s

/-! 41_data_transfer.md R145 -/

/-- R145, opcode 0x01: `LXI B, d16`, `(B) <= {b3}, (C) <= {b2}`. -/
def execLxiB (b2 b3 : Byte) (s : State) : Host.Outcome State Fault Refusal := respond 0x01 [b2, b3] s

/-- R145, opcode 0x11: `LXI D, d16`, `(D) <= {b3}, (E) <= {b2}`. -/
def execLxiD (b2 b3 : Byte) (s : State) : Host.Outcome State Fault Refusal := respond 0x11 [b2, b3] s

/-- R145, opcode 0x21: `LXI H, d16`, `(H) <= {b3}, (L) <= {b2}`. -/
def execLxiH (b2 b3 : Byte) (s : State) : Host.Outcome State Fault Refusal := respond 0x21 [b2, b3] s

/-! 41_data_transfer.md R146 -/

/-- R146, opcode 0x31: `LXI SP, d16`, `(SP) <= {a16}`. -/
def execLxiSP (b2 b3 : Byte) (s : State) : Host.Outcome State Fault Refusal := respond 0x31 [b2, b3] s

/-! 41_data_transfer.md R147 -/

/-- R147, opcode 0x3A: `LDA a16`, `(A) <= ({a16})`. -/
def execLda (b2 b3 : Byte) (s : State) : Host.Outcome State Fault Refusal := respond 0x3A [b2, b3] s

/-! 41_data_transfer.md R148 -/

/-- R148, opcode 0x32: `STA a16`, `({a16}) <= (A)`. -/
def execSta (b2 b3 : Byte) (s : State) : Host.Outcome State Fault Refusal := respond 0x32 [b2, b3] s

/-! 41_data_transfer.md R149 -/

/-- R149, opcode 0x2A: `LHLD a16`, `(L) <= ({a16}), (H) <= ({a16} + 1)`. -/
def execLhld (b2 b3 : Byte) (s : State) : Host.Outcome State Fault Refusal := respond 0x2A [b2, b3] s

/-! 41_data_transfer.md R150 -/

/-- R150, opcode 0x22: `SHLD a16`, `({a16}) <= (L), ({a16} + 1) <= (H)`. -/
def execShld (b2 b3 : Byte) (s : State) : Host.Outcome State Fault Refusal := respond 0x22 [b2, b3] s

/-! 41_data_transfer.md R151 -/

/-- R151, opcode 0x0A: `LDAX B`, `(A) <= ((B) (C))`. -/
def execLdaxB (s : State) : Host.Outcome State Fault Refusal := respond 0x0A [] s

/-- R151, opcode 0x1A: `LDAX D`, `(A) <= ((D) (E))`. -/
def execLdaxD (s : State) : Host.Outcome State Fault Refusal := respond 0x1A [] s

/-! 41_data_transfer.md R152 -/

/-- R152, opcode 0x02: `STAX B`, `((B) (C)) <= (A)`. -/
def execStaxB (s : State) : Host.Outcome State Fault Refusal := respond 0x02 [] s

/-- R152, opcode 0x12: `STAX D`, `((D) (E)) <= (A)`. -/
def execStaxD (s : State) : Host.Outcome State Fault Refusal := respond 0x12 [] s

/-! 41_data_transfer.md R153 -/

/-- R153, opcode 0xEB: `XCHG`, `(H) <=> (D), (L) <=> (E)`. -/
def execXchg (s : State) : Host.Outcome State Fault Refusal := respond 0xEB [] s

end Sys2Proof.Machine
end

