-- ==== Sys2Proof/Machine/Logical.lean ====
section
/-!
DEFINITION. The logical group (43_logical.md): ANA, ANI, XRA, XRI, ORA, ORI, CMP, CPI, RLC, RRC, RAL, RAR, CMA, CMC, STC. The meaning of each is the rule's pseudocode:
the decode of R110 for that opcode, with the descriptor the ROMs hold for it. The block decodes the instruction and
does not execute it (00_scope.md R5).
-/

namespace Sys2Proof.Machine

/-! 43_logical.md R190 -/

/-- R190, opcode 0xA0: `ANA B`, `(A) <= (A) & (B)`. -/
def execAnaB (s : State) : Host.Outcome State Fault Refusal := respond 0xA0 [] s

/-- R190, opcode 0xA1: `ANA C`, `(A) <= (A) & (C)`. -/
def execAnaC (s : State) : Host.Outcome State Fault Refusal := respond 0xA1 [] s

/-- R190, opcode 0xA2: `ANA D`, `(A) <= (A) & (D)`. -/
def execAnaD (s : State) : Host.Outcome State Fault Refusal := respond 0xA2 [] s

/-- R190, opcode 0xA3: `ANA E`, `(A) <= (A) & (E)`. -/
def execAnaE (s : State) : Host.Outcome State Fault Refusal := respond 0xA3 [] s

/-- R190, opcode 0xA4: `ANA H`, `(A) <= (A) & (H)`. -/
def execAnaH (s : State) : Host.Outcome State Fault Refusal := respond 0xA4 [] s

/-- R190, opcode 0xA5: `ANA L`, `(A) <= (A) & (L)`. -/
def execAnaL (s : State) : Host.Outcome State Fault Refusal := respond 0xA5 [] s

/-- R190, opcode 0xA7: `ANA A`, `(A) <= (A) & (A)`. -/
def execAnaA (s : State) : Host.Outcome State Fault Refusal := respond 0xA7 [] s

/-! 43_logical.md R191 -/

/-- R191, opcode 0xA6: `ANA M`, `(A) <= (A) & ((H) (L))`. -/
def execAnaM (s : State) : Host.Outcome State Fault Refusal := respond 0xA6 [] s

/-! 43_logical.md R192 -/

/-- R192, opcode 0xE6: `ANI d8`, `(A) <= (A) & {b2}`. -/
def execAni (b2 : Byte) (s : State) : Host.Outcome State Fault Refusal := respond 0xE6 [b2] s

/-! 43_logical.md R193 -/

/-- R193, opcode 0xA8: `XRA B`, `(A) <= (A) ^ (B)`. -/
def execXraB (s : State) : Host.Outcome State Fault Refusal := respond 0xA8 [] s

/-- R193, opcode 0xA9: `XRA C`, `(A) <= (A) ^ (C)`. -/
def execXraC (s : State) : Host.Outcome State Fault Refusal := respond 0xA9 [] s

/-- R193, opcode 0xAA: `XRA D`, `(A) <= (A) ^ (D)`. -/
def execXraD (s : State) : Host.Outcome State Fault Refusal := respond 0xAA [] s

/-- R193, opcode 0xAB: `XRA E`, `(A) <= (A) ^ (E)`. -/
def execXraE (s : State) : Host.Outcome State Fault Refusal := respond 0xAB [] s

/-- R193, opcode 0xAC: `XRA H`, `(A) <= (A) ^ (H)`. -/
def execXraH (s : State) : Host.Outcome State Fault Refusal := respond 0xAC [] s

/-- R193, opcode 0xAD: `XRA L`, `(A) <= (A) ^ (L)`. -/
def execXraL (s : State) : Host.Outcome State Fault Refusal := respond 0xAD [] s

/-- R193, opcode 0xAF: `XRA A`, `(A) <= (A) ^ (A)`. -/
def execXraA (s : State) : Host.Outcome State Fault Refusal := respond 0xAF [] s

/-! 43_logical.md R194 -/

/-- R194, opcode 0xAE: `XRA M`, `(A) <= (A) ^ ((H) (L))`. -/
def execXraM (s : State) : Host.Outcome State Fault Refusal := respond 0xAE [] s

/-! 43_logical.md R195 -/

/-- R195, opcode 0xEE: `XRI d8`, `(A) <= (A) ^ {b2}`. -/
def execXri (b2 : Byte) (s : State) : Host.Outcome State Fault Refusal := respond 0xEE [b2] s

/-! 43_logical.md R196 -/

/-- R196, opcode 0xB0: `ORA B`, `(A) <= (A) | (B)`. -/
def execOraB (s : State) : Host.Outcome State Fault Refusal := respond 0xB0 [] s

/-- R196, opcode 0xB1: `ORA C`, `(A) <= (A) | (C)`. -/
def execOraC (s : State) : Host.Outcome State Fault Refusal := respond 0xB1 [] s

/-- R196, opcode 0xB2: `ORA D`, `(A) <= (A) | (D)`. -/
def execOraD (s : State) : Host.Outcome State Fault Refusal := respond 0xB2 [] s

/-- R196, opcode 0xB3: `ORA E`, `(A) <= (A) | (E)`. -/
def execOraE (s : State) : Host.Outcome State Fault Refusal := respond 0xB3 [] s

/-- R196, opcode 0xB4: `ORA H`, `(A) <= (A) | (H)`. -/
def execOraH (s : State) : Host.Outcome State Fault Refusal := respond 0xB4 [] s

/-- R196, opcode 0xB5: `ORA L`, `(A) <= (A) | (L)`. -/
def execOraL (s : State) : Host.Outcome State Fault Refusal := respond 0xB5 [] s

/-- R196, opcode 0xB7: `ORA A`, `(A) <= (A) | (A)`. -/
def execOraA (s : State) : Host.Outcome State Fault Refusal := respond 0xB7 [] s

/-! 43_logical.md R197 -/

/-- R197, opcode 0xB6: `ORA M`, `(A) <= (A) | ((H) (L))`. -/
def execOraM (s : State) : Host.Outcome State Fault Refusal := respond 0xB6 [] s

/-! 43_logical.md R198 -/

/-- R198, opcode 0xF6: `ORI d8`, `(A) <= (A) | {b2}`. -/
def execOri (b2 : Byte) (s : State) : Host.Outcome State Fault Refusal := respond 0xF6 [b2] s

/-! 43_logical.md R199 -/

/-- R199, opcode 0xB8: `CMP B`, `(A) - (B)`. -/
def execCmpB (s : State) : Host.Outcome State Fault Refusal := respond 0xB8 [] s

/-- R199, opcode 0xB9: `CMP C`, `(A) - (C)`. -/
def execCmpC (s : State) : Host.Outcome State Fault Refusal := respond 0xB9 [] s

/-- R199, opcode 0xBA: `CMP D`, `(A) - (D)`. -/
def execCmpD (s : State) : Host.Outcome State Fault Refusal := respond 0xBA [] s

/-- R199, opcode 0xBB: `CMP E`, `(A) - (E)`. -/
def execCmpE (s : State) : Host.Outcome State Fault Refusal := respond 0xBB [] s

/-- R199, opcode 0xBC: `CMP H`, `(A) - (H)`. -/
def execCmpH (s : State) : Host.Outcome State Fault Refusal := respond 0xBC [] s

/-- R199, opcode 0xBD: `CMP L`, `(A) - (L)`. -/
def execCmpL (s : State) : Host.Outcome State Fault Refusal := respond 0xBD [] s

/-- R199, opcode 0xBF: `CMP A`, `(A) - (A)`. -/
def execCmpA (s : State) : Host.Outcome State Fault Refusal := respond 0xBF [] s

/-! 43_logical.md R200 -/

/-- R200, opcode 0xBE: `CMP M`, `(A) - ((H) (L))`. -/
def execCmpM (s : State) : Host.Outcome State Fault Refusal := respond 0xBE [] s

/-! 43_logical.md R201 -/

/-- R201, opcode 0xFE: `CPI d8`, `(A) - {b2}`. -/
def execCpi (b2 : Byte) (s : State) : Host.Outcome State Fault Refusal := respond 0xFE [b2] s

/-! 43_logical.md R202 -/

/-- R202, opcode 0x07: `RLC`, `(A) <= (A) << 1 | (A7), (CY) <= (A7)`. -/
def execRlc (s : State) : Host.Outcome State Fault Refusal := respond 0x07 [] s

/-! 43_logical.md R203 -/

/-- R203, opcode 0x0F: `RRC`, `(A) <= (A) >> 1 | (A0) << 7, (CY) <= (A0)`. -/
def execRrc (s : State) : Host.Outcome State Fault Refusal := respond 0x0F [] s

/-! 43_logical.md R204 -/

/-- R204, opcode 0x17: `RAL`, `(A) <= (A) << 1 | (CY), (CY) <= (A7)`. -/
def execRal (s : State) : Host.Outcome State Fault Refusal := respond 0x17 [] s

/-! 43_logical.md R205 -/

/-- R205, opcode 0x1F: `RAR`, `(A) <= (A) >> 1 | (CY) << 7, (CY) <= (A0)`. -/
def execRar (s : State) : Host.Outcome State Fault Refusal := respond 0x1F [] s

/-! 43_logical.md R206 -/

/-- R206, opcode 0x2F: `CMA`, `(A) <= ~(A)`. -/
def execCma (s : State) : Host.Outcome State Fault Refusal := respond 0x2F [] s

/-! 43_logical.md R207 -/

/-- R207, opcode 0x3F: `CMC`, `(CY) <= ~(CY)`. -/
def execCmc (s : State) : Host.Outcome State Fault Refusal := respond 0x3F [] s

/-! 43_logical.md R208 -/

/-- R208, opcode 0x37: `STC`, `(CY) <= 1`. -/
def execStc (s : State) : Host.Outcome State Fault Refusal := respond 0x37 [] s

end Sys2Proof.Machine
end

