-- ==== Sys2Proof/Machine/StackIoControl.lean ====
section
/-!
DEFINITION. The stack, I/O and machine control group (45_stack_io_control.md): PUSH, POP, XTHL, SPHL, IN, OUT, EI, DI, HLT, NOP. The meaning of each is the rule's pseudocode:
the decode of R110 for that opcode, with the descriptor the ROMs hold for it. The block decodes the instruction and
does not execute it (00_scope.md R5).
-/

namespace Sys2Proof.Machine

/-! 45_stack_io_control.md R240 -/

/-- R240, opcode 0xC5: `PUSH B`, `((SP) - 1) <= (B), ((SP) - 2) <= (C), (SP) <= (SP) - 2`. -/
def execPushB (s : State) : Host.Outcome State Fault Refusal := respond 0xC5 [] s

/-- R240, opcode 0xD5: `PUSH D`, `((SP) - 1) <= (D), ((SP) - 2) <= (E), (SP) <= (SP) - 2`. -/
def execPushD (s : State) : Host.Outcome State Fault Refusal := respond 0xD5 [] s

/-- R240, opcode 0xE5: `PUSH H`, `((SP) - 1) <= (H), ((SP) - 2) <= (L), (SP) <= (SP) - 2`. -/
def execPushH (s : State) : Host.Outcome State Fault Refusal := respond 0xE5 [] s

/-! 45_stack_io_control.md R241 -/

/-- R241, opcode 0xF5: `PUSH PSW`, `((SP) - 1) <= (A), ((SP) - 2) <= (FLAGS), (SP) <= (SP) - 2`. -/
def execPushPSW (s : State) : Host.Outcome State Fault Refusal := respond 0xF5 [] s

/-! 45_stack_io_control.md R242 -/

/-- R242, opcode 0xC1: `POP B`, `(C) <= ((SP)), (B) <= ((SP) + 1), (SP) <= (SP) + 2`. -/
def execPopB (s : State) : Host.Outcome State Fault Refusal := respond 0xC1 [] s

/-- R242, opcode 0xD1: `POP D`, `(E) <= ((SP)), (D) <= ((SP) + 1), (SP) <= (SP) + 2`. -/
def execPopD (s : State) : Host.Outcome State Fault Refusal := respond 0xD1 [] s

/-- R242, opcode 0xE1: `POP H`, `(L) <= ((SP)), (H) <= ((SP) + 1), (SP) <= (SP) + 2`. -/
def execPopH (s : State) : Host.Outcome State Fault Refusal := respond 0xE1 [] s

/-! 45_stack_io_control.md R243 -/

/-- R243, opcode 0xF1: `POP PSW`, `(FLAGS) <= ((SP)), (A) <= ((SP) + 1), (SP) <= (SP) + 2`. -/
def execPopPSW (s : State) : Host.Outcome State Fault Refusal := respond 0xF1 [] s

/-! 45_stack_io_control.md R244 -/

/-- R244, opcode 0xE3: `XTHL`, `(L) <=> ((SP)), (H) <=> ((SP) + 1)`. -/
def execXthl (s : State) : Host.Outcome State Fault Refusal := respond 0xE3 [] s

/-! 45_stack_io_control.md R245 -/

/-- R245, opcode 0xF9: `SPHL`, `(SP) <= (H) (L)`. -/
def execSphl (s : State) : Host.Outcome State Fault Refusal := respond 0xF9 [] s

/-! 45_stack_io_control.md R246 -/

/-- R246, opcode 0xDB: `IN d8`, `(A) <= (port {b2})`. -/
def execInPort (b2 : Byte) (s : State) : Host.Outcome State Fault Refusal := respond 0xDB [b2] s

/-! 45_stack_io_control.md R247 -/

/-- R247, opcode 0xD3: `OUT d8`, `(port {b2}) <= (A)`. -/
def execOutPort (b2 : Byte) (s : State) : Host.Outcome State Fault Refusal := respond 0xD3 [b2] s

/-! 45_stack_io_control.md R248 -/

/-- R248, opcode 0xFB: `EI`, `enable interrupts`. -/
def execEi (s : State) : Host.Outcome State Fault Refusal := respond 0xFB [] s

/-! 45_stack_io_control.md R249 -/

/-- R249, opcode 0xF3: `DI`, `disable interrupts`. -/
def execDi (s : State) : Host.Outcome State Fault Refusal := respond 0xF3 [] s

/-! 45_stack_io_control.md R250 -/

/-- R250, opcode 0x76: `HLT`, `halt`. -/
def execHlt (s : State) : Host.Outcome State Fault Refusal := respond 0x76 [] s

/-! 45_stack_io_control.md R251 -/

/-- R251, opcode 0x00: `NOP`, `no operation`. -/
def execNop00 (s : State) : Host.Outcome State Fault Refusal := respond 0x00 [] s

/-- R251, opcode 0x08, descriptor 0x00: `NOP`, `no operation`. -/
def execNop08 (s : State) : Host.Outcome State Fault Refusal := respond 0x08 [] s

/-- R251, opcode 0x10, descriptor 0x00: `NOP`, `no operation`. -/
def execNop10 (s : State) : Host.Outcome State Fault Refusal := respond 0x10 [] s

/-- R251, opcode 0x18, descriptor 0x00: `NOP`, `no operation`. -/
def execNop18 (s : State) : Host.Outcome State Fault Refusal := respond 0x18 [] s

/-- R251, opcode 0x20, descriptor 0x00: `NOP`, `no operation`. -/
def execNop20 (s : State) : Host.Outcome State Fault Refusal := respond 0x20 [] s

/-- R251, opcode 0x28, descriptor 0x00: `NOP`, `no operation`. -/
def execNop28 (s : State) : Host.Outcome State Fault Refusal := respond 0x28 [] s

/-- R251, opcode 0x30, descriptor 0x00: `NOP`, `no operation`. -/
def execNop30 (s : State) : Host.Outcome State Fault Refusal := respond 0x30 [] s

/-- R251, opcode 0x38, descriptor 0x00: `NOP`, `no operation`. -/
def execNop38 (s : State) : Host.Outcome State Fault Refusal := respond 0x38 [] s

end Sys2Proof.Machine
end

