-- ==== Sys2Proof/Machine/Step.lean ====
section
/-!
DEFINITION. One step: the block answers the request the state presents, and the reference caller takes its turn. The
bytes of the window are fetched (40_decode_operation.md R112), decoded, and the instruction's meaning run; when the
window holds no byte, or fewer than the instruction needs, the outcome is a failure (R111, R114).
-/

namespace Sys2Proof.Machine

/-- One request answered (40_decode_operation.md R110) and one turn of the reference walk (R123). -/
def step (s : State) : Host.Outcome State Fault Refusal :=
  match s.turnedAway with
  | some r => .refused r
  | none =>
    match s.window with
    | [] => respondOutOfRange s
    | op :: following =>
      match decode (op :: following) with
      | .ok (i, _) => exec i s
      | .error _ => respond op following s

/-- The state with an instruction's bytes stored where the step fetches its next instruction, the cursor of the
request, and a request presented for it: what a caller does that places a program in the buffer (log 4, log 18). As with
`State.submit`, `outcome` and `trace` are kept (log 22, log 23). -/
def State.withFetchWord (s : State) (nbits w : Nat) : State :=
  { s with
    buf := Memory.load s.buf s.offset (tableWordBytes nbits w)
    n := max s.n (s.offset + 3)
    requested := true
    steady := true }

end Sys2Proof.Machine
end

