-- ==== Sys2Proof/Safety.lean ====
section
/-!
DEFINITION. What counts as a safe state and a safe run: the ROMs hold their contents, the buffer is canonical and lies
below `N`, the cursor has not passed `N`, and the walk's list accounts for every byte up to the cursor.
-/

namespace Sys2Proof.Machine

/-- The ROMs hold the contents of opcode_table.json (10_state.md R38, 70_reset_and_hazards.md R292). -/
abbrev State.RomLoaded (s : State) : Prop := s.rom = Rom.contents

/-- The block takes the request: one is presented and its window holds still (20_memory.md R60,
70_reset_and_hazards.md R291, R295). -/
abbrev State.Ready (s : State) : Prop := s.requested = true ∧ s.steady = true

/-- The buffer is in canonical form and lists no index at or above `N` (10_state.md R36). -/
abbrev State.BufferOk (s : State) : Prop := Memory.wf s.buf ∧ ∀ c ∈ s.buf, c.1 < s.n

/-- The cursor is at most `N` (10_state.md R32). -/
abbrev State.CursorOk (s : State) : Prop := s.offset ≤ s.n

/-- Where a walk from `a` stands after a list of outcomes: each outcome is about the offset the ones before it lead to,
and only the last may be a failure (40_decode_operation.md R123). -/
def walkedTo (a : Nat) : List DecodeOutcome → Option Nat
  | [] => some a
  | o :: os =>
    if o.address = a then
      match o.bytesConsumed with
      | some c => walkedTo (a + c) os
      | none => if os.isEmpty then some a else none
    else none

/-- The walk's list leads from some offset to the cursor, and no request is presented after a failure
(40_decode_operation.md R123). -/
def State.TraceOk (s : State) : Prop :=
  (∃ a, walkedTo a s.trace = some s.offset) ∧
    (s.requested = true → ∀ o ∈ s.trace, o.bytesConsumed ≠ none)

/-- The invariant of a run. -/
structure State.Inv (s : State) : Prop where
  romLoaded : s.RomLoaded
  bufferOk : s.BufferOk
  cursorOk : s.CursorOk
  traceOk : s.TraceOk

/-- A step is safe when it does not end in a fault. -/
def Safe (o : Host.Outcome State Fault Refusal) : Prop := ∀ r, o ≠ .fault r

end Sys2Proof.Machine
end

