-- ==== Sys2Proof/WellFormed.lean ====
section
/-!
DEFINITION. Well-formedness. Of an instruction nothing needs checking: its operand bytes are bytes by type, and any
byte value is a valid operand (30_encoding.md R82). What the spec does ask to be checked are the invariants of the two
ROMs (10_state.md R23): these are the checks here, each a Bool that an ill-formed ROM fails.
-/

namespace Sys2Proof

/-- Every instruction term is well-formed: "any byte value is a valid `d8`, `port8` or half of a 16-bit operand"
(30_encoding.md R82). -/
def Instr.WellFormed (_ : Instr) : Prop := True

namespace Machine

/-- Every opcode value has a record (10_state.md R21, R22). -/
def Rom.everyEntryHasRecord (r : Rom) : Bool :=
  r.table.toList.all fun row => row.toList.all fun d => (r.record d).isSome

/-- The length of every record is the one its operand kind goes with (10_state.md R23 item 1). -/
def Rom.lengthsMatchKinds (r : Rom) : Bool :=
  (r.desc.toList.all fun row => row.all fun c => c.2.length == c.2.operand.length) &&
    r.unk.length == r.unk.operand.length

/-- Opcodes whose rule is the same have the same length (10_state.md R23 item 2). -/
def Rom.familiesHaveOneLength (r : Rom) : Bool :=
  ruleFamilies.all fun f =>
    let lengths := f.2.map fun op => (r.record (r.lookup op)).map Descriptor.length
    lengths.all fun l => some l == lengths.head?

/-- Each id has one record, filed under its high nibble, so opcodes with the same id have the same mnemonic, operation,
length, operand and flags (10_state.md R22, R23 item 3). -/
def Rom.idsFiled (r : Rom) : Bool :=
  (List.finRange 16).all fun h =>
    let row := r.desc.get h
    decide (row.map Prod.fst).Nodup && row.all fun c => (highNibble c.1).toFin == h

/-- The record of the sentinel has length 1 (10_state.md R23 item 4). -/
def Rom.unknownLengthOne (r : Rom) : Bool := r.unk.length == .one

/-- The placeholders a template of each operand kind may hold (30_encoding.md R88). -/
def pieceAllowed : OperandKind → Piece → Bool
  | _, .lit _ => true
  | .d8, .byte2 => true
  | .port8, .byte2 => true
  | .d16, .byte2 => true
  | .d16, .byte3 => true
  | .d16, .word16 => true
  | .a16, .word16 => true
  | _, _ => false

/-- No template of a real descriptor holds a placeholder its operand kind does not have (30_encoding.md R88), and the
sentinel's holds none but the opcode's (30_encoding.md R81). -/
def Rom.placeholdersFit (r : Rom) : Bool :=
  (r.desc.toList.all fun row => row.all fun c => c.2.operation.all (pieceAllowed c.2.operand)) &&
    r.unk.operation.all fun p => p == .opcode || pieceAllowed .noOperand p

/-- The number of real records is `DESC_COUNT` (00_scope.md R7, 10_state.md R22). -/
def Rom.countIsDescCount (r : Rom) : Bool := (r.desc.toList.map List.length).sum == Config.descriptorCount

/-- All the checks of a ROM. -/
def Rom.wellFormed (r : Rom) : Bool :=
  r.everyEntryHasRecord && r.lengthsMatchKinds && r.familiesHaveOneLength && r.idsFiled && r.unknownLengthOne &&
    r.placeholdersFit && r.countIsDescCount

end Machine

end Sys2Proof
end

