-- ==== Sys2Proof/Certificates/Slice0/Obligations.lean ====
section
/-!
DEFINITION. The statements for the provers. First the vocabulary they share, then the statements, each with the rule of
the spec it formalises.
-/

namespace Sys2Proof.Stated

open Sys2Proof.Machine

/-! ### Vocabulary -/

/-- The bytes from the offset to the end of the buffer: `present` of 10_state.md R30. -/
def bytesLeft (s : State) : List Byte :=
  (List.range (s.n - s.offset)).map fun k => Memory.read s.buf (s.offset + k)

/-- The pseudocode of 40_decode_operation.md R110, over the ROMs, a way to read the buffer, `N` and the offset; none when
the ROMs hold no fitting record. -/
def referenceDecode (rom : Rom) (memRead : Nat → Byte) (n offset : Nat) : Option DecodeOutcome :=
  if ¬ offset < n then some (.outOfRange ⟨offset, n⟩)
  else
    let op := memRead offset
    let d := rom.lookup op
    match rom.record d with
    | none => none
    | some e =>
      let len := e.length.bytes
      if offset + len > n then
        some (.truncated
          ⟨offset, op, d, len, n - offset, (List.range (n - offset)).map fun k => memRead (offset + k)⟩)
      else
        let b2 := memRead (offset + 1)
        let b3 := memRead (offset + 2)
        let operands := if len = 1 then [] else if len = 2 then [b2] else [b2, b3]
        match subst op operands e.operation with
        | none => none
        | some text =>
          match d with
          | .unk => some (.unknown ⟨offset, op, .unk, e.mnemonic, text, 1, 1⟩)
          | .real c =>
            some (.decoded
              ⟨offset, op, .real c, e.mnemonic, text, len, len, operands,
                if e.operand = .d8 ∨ e.operand = .port8 then some b2 else none,
                if e.operand = .d16 ∨ e.operand = .a16 then some ((b3.setWidth 16 <<< 8) ||| b2.setWidth 16) else none,
                e.flags⟩)

/-- The second byte values of 30_encoding.md R79, each with its canonical opcode. -/
def secondByteValues : List (Byte × Byte) :=
  [(0x08, 0x00), (0x10, 0x00), (0x18, 0x00), (0x20, 0x00), (0x28, 0x00), (0x30, 0x00), (0x38, 0x00),
    (0xCB, 0xC3), (0xD9, 0xC9), (0xDD, 0xCD), (0xED, 0xCD), (0xFD, 0xCD)]

/-- The canonical opcode of an opcode value (30_encoding.md R79, R80). -/
def canonicalOpcode (op : Byte) : Byte := (secondByteValues.lookup op).getD op

/-- The opcodes of the operand kinds of 30_encoding.md R74; every opcode not listed has none. -/
def operandKind (op : Byte) : OperandKind :=
  if op ∈ ([0x06, 0x0E, 0x16, 0x1E, 0x26, 0x2E, 0x36, 0x3E, 0xC6, 0xCE, 0xD6, 0xDE, 0xE6, 0xEE, 0xF6, 0xFE] : List Byte)
  then .d8
  else if op ∈ ([0xD3, 0xDB] : List Byte) then .port8
  else if op ∈ ([0x01, 0x11, 0x21, 0x31] : List Byte) then .d16
  else if op ∈ ([0x22, 0x2A, 0x32, 0x3A, 0xC3, 0xCB, 0xC2, 0xCA, 0xD2, 0xDA, 0xE2, 0xEA, 0xF2, 0xFA,
      0xCD, 0xDD, 0xED, 0xFD, 0xC4, 0xCC, 0xD4, 0xDC, 0xE4, 0xEC, 0xF4, 0xFC] : List Byte) then .a16
  else .noOperand

/-- The length of an instruction of each operand kind (30_encoding.md R74, column `length`). -/
def kindBytes : OperandKind → Nat
  | .noOperand => 1
  | .d8 => 2
  | .port8 => 2
  | .d16 => 3
  | .a16 => 3

/-- The opcode an outcome reports, if it reports one (10_state.md R27 to R30). -/
def reportedOpcode : DecodeOutcome → Option Byte
  | .decoded r => some r.opcode
  | .unknown r => some r.opcode
  | .outOfRange _ => none
  | .truncated i => some i.opcode

/-- The same outcome with another opcode in its `opcode` field and at the head of `present`
(40_decode_operation.md R121). -/
def withOpcode (c : Byte) : DecodeOutcome → DecodeOutcome
  | .decoded r => .decoded { r with opcode := c }
  | .unknown r => .unknown { r with opcode := c }
  | .outOfRange i => .outOfRange i
  | .truncated i => .truncated { i with opcode := c, present := c :: i.present.tail }

/-- A hexadecimal digit of a number below 16, as 30_encoding.md R90 lists the digits. -/
def digit (k : Nat) : Char := ("0123456789ABCDEF".toList).getD k '?'

/-- The rule of a 1-byte instruction, whole: at the opcode `op`, whose descriptor is `canon`, the block answers the
given record; and `OutOfRange` when the offset is not in the buffer. The last clause says the same of the instruction's
meaning. -/
def AnswersOneByte (op canon : Byte) (mnemonic text : String) (flags : FlagSet) : Prop :=
  ∀ s : State, s.RomLoaded →
    (s.Ready → s.n ≤ s.offset → step s = .next (s.deliver (.outOfRange ⟨s.offset, s.n⟩))) ∧
    (s.Ready → s.readByte s.offset = some op →
      step s = .next (s.deliver (.decoded
        ⟨s.offset, op, .real canon, mnemonic, text, 1, 1, [], none, none, flags⟩))) ∧
    (∀ i : Instr, i.opcode = op → s.offset < s.n →
      exec i s = .next (s.deliver (.decoded
        ⟨s.offset, op, .real canon, mnemonic, text, 1, 1, [], none, none, flags⟩)))

/-- The rule of a 2-byte instruction, whole: `OutOfRange`, `TruncatedInstruction` when byte 2 is missing, otherwise the
given record. -/
def AnswersTwoBytes (op canon : Byte) (mnemonic : String) (text : Byte → String) (flags : FlagSet) : Prop :=
  ∀ s : State, s.RomLoaded →
    (s.Ready → s.n ≤ s.offset → step s = .next (s.deliver (.outOfRange ⟨s.offset, s.n⟩))) ∧
    (s.Ready → s.readByte s.offset = some op → s.n = s.offset + 1 →
      step s = .next (s.deliver (.truncated ⟨s.offset, op, .real canon, 2, 1, [op]⟩))) ∧
    (∀ b2, s.Ready → s.readByte s.offset = some op → s.readByte (s.offset + 1) = some b2 →
      step s = .next (s.deliver (.decoded
        ⟨s.offset, op, .real canon, mnemonic, text b2, 2, 2, [b2], some b2, none, flags⟩))) ∧
    (∀ (i : Instr) (b2 : Byte), i.opcode = op → i.operands = [b2] → s.offset + 2 ≤ s.n →
      exec i s = .next (s.deliver (.decoded
        ⟨s.offset, op, .real canon, mnemonic, text b2, 2, 2, [b2], some b2, none, flags⟩)))

/-- The rule of a 3-byte instruction, whole: `OutOfRange`, `TruncatedInstruction` when one or two operand bytes are
missing, otherwise the given record. -/
def AnswersThreeBytes (op canon : Byte) (mnemonic : String) (text : Byte → Byte → String) (flags : FlagSet) : Prop :=
  ∀ s : State, s.RomLoaded →
    (s.Ready → s.n ≤ s.offset → step s = .next (s.deliver (.outOfRange ⟨s.offset, s.n⟩))) ∧
    (s.Ready → s.readByte s.offset = some op → s.n = s.offset + 1 →
      step s = .next (s.deliver (.truncated ⟨s.offset, op, .real canon, 3, 1, [op]⟩))) ∧
    (∀ b2, s.Ready → s.readByte s.offset = some op → s.readByte (s.offset + 1) = some b2 → s.n = s.offset + 2 →
      step s = .next (s.deliver (.truncated ⟨s.offset, op, .real canon, 3, 2, [op, b2]⟩))) ∧
    (∀ b2 b3, s.Ready → s.readByte s.offset = some op → s.readByte (s.offset + 1) = some b2 →
      s.readByte (s.offset + 2) = some b3 →
      step s = .next (s.deliver (.decoded
        ⟨s.offset, op, .real canon, mnemonic, text b2 b3, 3, 3, [b2, b3], none, some (b3 ++ b2), flags⟩))) ∧
    (∀ (i : Instr) (b2 b3 : Byte), i.opcode = op → i.operands = [b2, b3] → s.offset + 3 ≤ s.n →
      exec i s = .next (s.deliver (.decoded
        ⟨s.offset, op, .real canon, mnemonic, text b2 b3, 3, 3, [b2, b3], none, some (b3 ++ b2), flags⟩)))

/-- The text of a byte operand (30_encoding.md R89). -/
def lit2 (b : Byte) : String := "#$" ++ hex2 b

/-- The text of a 16-bit operand: byte 3 is the high byte (30_encoding.md R89, R75). -/
def lit4 (b2 b3 : Byte) : String := "#$" ++ hex4 (b3 ++ b2)

/-- The text that CALL, Ccondition and RST share up to the target (44_branch.md R222, R223, R226). -/
def callText : String := "((SP) - 1) <= (PCH), ((SP) - 2) <= (PCL), (SP) <= (SP) - 2, (PC) <= "

/-- The text that RET and Rcondition share (44_branch.md R224, R225). -/
def returnText : String := "(PCL) <= ((SP)), (PCH) <= ((SP) + 1), (SP) <= (SP) + 2"

end Sys2Proof.Stated

open Sys2Proof Sys2Proof.Machine Sys2Proof.Stated

/-! ### Encoding -/

/-- Decoding gives exactly the instruction whose bytes stand at the head of the list, with every operand value, and
leaves the bytes after it (30_encoding.md sections 1 and 2). -/
def Obligations.DecodeGivesExactlyWhatEncodeWrites : Prop :=
  ∀ (bs : List Byte) (i : Instr) (rest : List Byte), decode bs = .ok (i, rest) ↔ bs = encode i ++ rest

/-- The decoder rejects a list that begins with an opcode exactly when it holds fewer bytes than the descriptor's length
calls for: no encoding is illegal and no operand value is rejected (30_encoding.md sections 1 and 5). -/
def Obligations.DecodeRejectsOnlyMissingBytes : Prop :=
  ∀ (op : Byte) (bs : List Byte), (∃ e, decode (op :: bs) = .error e) ↔
    ∃ e, Rom.contents.record (Rom.contents.lookup op) = some e ∧ bs.length + 1 < e.length.bytes

/-- Words written out from the encoding column of the opcode table decode to the instructions they stand for, one or
two of each family (30_encoding.md R78). -/
def Obligations.WrittenWordsDecode : Prop :=
  decode [0b01000001] = .ok (.movBC, []) ∧
  decode [0b00111110, 0xFF] = .ok (.mviA 0xFF, []) ∧
  decode [0b00100001, 0x34, 0x12] = .ok (.lxiH 0x34 0x12, []) ∧
  decode [0b10000110] = .ok (.addM, []) ∧
  decode [0b11010110, 0x80] = .ok (.sui 0x80, []) ∧
  decode [0b10101111] = .ok (.xraA, []) ∧
  decode [0b11000011, 0x00, 0x10] = .ok (.jmpC3 0x00 0x10, []) ∧
  decode [0b11101101, 0x00, 0x01] = .ok (.callED 0x00 0x01, []) ∧
  decode [0b11011011, 0x01] = .ok (.inPort 0x01, []) ∧
  decode [0b01110110] = .ok (.hlt, [])

/-- The lookup ROM gives every opcode value the id of its canonical opcode: itself, or for the twelve second byte values
the opcode they share a descriptor with (30_encoding.md R79, R80). So 244 opcode values are their own canonical opcode
and the ROM holds 244 real records: that count the spec marks as its own inference ("[derived: from rule R79 and the
map of rule R78; 256 - 12 = 244]"). -/
def Obligations.LookupGivesCanonicalOpcode : Prop :=
  (∀ op : Byte, Rom.contents.lookup op = .real (canonicalOpcode op)) ∧
  (∀ p ∈ secondByteValues, p.1 ≠ p.2 ∧ canonicalOpcode p.1 = p.2) ∧ secondByteValues.length = 12 ∧
  ((List.range 256).filter fun k => canonicalOpcode (BitVec.ofNat 8 k) = BitVec.ofNat 8 k).length = 244 ∧
  (Rom.contents.desc.toList.map List.length).sum = 244

/-- Every opcode's descriptor has the operand kind that lists it, and the length of that kind (30_encoding.md R74). -/
def Obligations.OperandKindsAndLengths : Prop :=
  ∀ op : Byte, ∃ e, Rom.contents.record (Rom.contents.lookup op) = some e ∧ e.operand = operandKind op ∧
    e.length.bytes = kindBytes (operandKind op)

/-- The ROMs pass every check of the table invariants: all four items of 10_state.md section 1's list (the length of each
operand kind, one length for the opcodes of one rule, one record for each id, the sentinel's length), the placeholders of
each operand kind (30_encoding.md section 7), a record for every entry, and 244 real records. -/
def Obligations.RomsAreWellFormed : Prop := Rom.contents.wellFormed = true

/-- 208 opcode values have length 1, 18 have length 2 and 30 have length 3. The three counts are what R71, R72 and R73 of
30_encoding.md each mark as the spec's own inference ("[derived: from opcode_table.json]"). -/
def Obligations.FormatCounts : Prop :=
  ∀ k : Nat, ((List.range 256).filter fun op =>
      (Rom.contents.record (Rom.contents.lookup (BitVec.ofNat 8 op))).any fun e => e.length.bytes == k).length =
    if k = 1 then 208 else if k = 2 then 18 else if k = 3 then 30 else 0

/-! ### The decode of one request -/

/-- On a state whose ROMs are loaded and that presents a request, a step answers the outcome of the pseudocode of
40_decode_operation.md R110, and the pseudocode reads nothing outside `buf[0..N-1]`: its outcome is the same for every
way to read that agrees with the buffer below `N`. -/
def Obligations.StepAnswersTheReferenceDecode : Prop :=
  ∀ s : State, s.RomLoaded → s.Ready →
    ∃ o, step s = .next (s.deliver o) ∧ referenceDecode s.rom (Memory.read s.buf) s.n s.offset = some o ∧
      ∀ memRead : Nat → Byte, (∀ i, i < s.n → memRead i = Memory.read s.buf i) →
        referenceDecode s.rom memRead s.n s.offset = some o

/-- When the bytes at the cursor decode to an instruction, a step is that instruction's meaning at that state; the
cursor moves inside the meaning, and the step adds nothing around it. -/
def Obligations.StepRunsTheDecodedInstruction : Prop :=
  ∀ (s : State) (i : Instr), s.Ready →
    (∀ k (h : k < (encode i).length), s.readByte (s.offset + k) = some (encode i)[k]) → step s = exec i s

/-- When `offset >= N` the outcome is `OutOfRange` with the offset and `N`, whatever the buffer holds; every instruction's
meaning answers the same there; its code is 2 and the cursor does not move (40_decode_operation.md R111,
60_exceptions.md R260). -/
def Obligations.OffsetOutsideBufferIsOutOfRange : Prop :=
  ∀ s : State, s.n ≤ s.offset →
    (s.Ready → step s = .next (s.deliver (.outOfRange ⟨s.offset, s.n⟩))) ∧
    (∀ i, exec i s = .next (s.deliver (.outOfRange ⟨s.offset, s.n⟩))) ∧
    (DecodeOutcome.outOfRange ⟨s.offset, s.n⟩).code = 2 ∧
    (s.deliver (.outOfRange ⟨s.offset, s.n⟩)).offset = s.offset

/-- When the opcode is in the buffer and its length passes the end, the outcome is `TruncatedInstruction` with every
field of 10_state.md R30; one or two bytes are available, the length is 2 or 3, the code is 3, and the cursor does not
move; the instruction's meaning answers the same (40_decode_operation.md R114, 60_exceptions.md R261). -/
def Obligations.MissingOperandBytesAreTruncation : Prop :=
  ∀ (s : State) (op : Byte) (e : Descriptor), s.RomLoaded → s.readByte s.offset = some op →
    s.rom.record (s.rom.lookup op) = some e → s.n < s.offset + e.length.bytes →
    let o : DecodeOutcome :=
      .truncated ⟨s.offset, op, s.rom.lookup op, e.length.bytes, s.n - s.offset, bytesLeft s⟩
    (s.Ready → step s = .next (s.deliver o)) ∧
    (∀ i : Instr, i.opcode = op → exec i s = .next (s.deliver o)) ∧
    (s.n - s.offset = 1 ∨ s.n - s.offset = 2) ∧ (e.length.bytes = 2 ∨ e.length.bytes = 3) ∧
    o.code = 3 ∧ (s.deliver o).offset = s.offset

/-- Which outcome a step answers, in the order of 60_exceptions.md R264, whatever the ROMs hold. -/
def Obligations.OutcomesFollowThePriority : Prop :=
  ∀ s t : State, step s = .next t → ∃ o, t = s.deliver o ∧
    (s.n ≤ s.offset → ∃ i, o = .outOfRange i) ∧
    (∀ op e, s.readByte s.offset = some op → s.rom.record (s.rom.lookup op) = some e →
      (s.n < s.offset + e.length.bytes → ∃ i, o = .truncated i) ∧
      (s.offset + e.length.bytes ≤ s.n → s.rom.lookup op = .unk → ∃ r, o = .unknown r) ∧
      (s.offset + e.length.bytes ≤ s.n → s.rom.lookup op ≠ .unk → ∃ r, o = .decoded r))

/-- Every request gets exactly one outcome, for every buffer, length and offset, with no fault, and nothing at or past
`N` has a part in it (40_decode_operation.md R120). -/
def Obligations.EveryRequestGetsOneOutcome : Prop :=
  ∀ s : State, s.RomLoaded → s.Ready →
    (∃! o, step s = .next (s.deliver o)) ∧
    ∀ m : Memory, (∀ i, i < s.n → Memory.read m i = Memory.read s.buf i) →
      ∀ o, step s = .next (s.deliver o) → step { s with buf := m } = .next (State.deliver o { s with buf := m })

/-- A request that is not out of range and whose instruction's bytes all lie in the buffer is `Decoded`, with code 0,
and no request faults (60_exceptions.md R263). -/
def Obligations.EveryOtherRequestIsDecoded : Prop :=
  ∀ s : State, s.RomLoaded →
    (∀ op e, s.Ready → s.readByte s.offset = some op → s.rom.record (s.rom.lookup op) = some e →
      s.offset + e.length.bytes ≤ s.n →
      ∃ r, step s = .next (s.deliver (.decoded r)) ∧ (DecodeOutcome.decoded r).code = 0) ∧
    Safe (step s) ∧ (∀ i, Safe (exec i s)) ∧
    (s.Ready → ∃ o, step s = .next (s.deliver o))

/-- The opcodes that can be truncated are the 48 of length 2 or 3, and only where fewer bytes are left than the length:
in the last `required - 1` bytes of the buffer; the outcome's code is 3 and its record is that of 10_state.md R30
(60_exceptions.md R261). That only those 48 can is what the spec marks as its own inference ("[derived: from
30_encoding.md rules R72 and R73]"). -/
def Obligations.OnlyLongInstructionsAreTruncated : Prop :=
  (∀ (s t : State) (i : TruncInfo), s.RomLoaded → step s = .next t → t.outcome = some (.truncated i) →
    kindBytes (operandKind i.opcode) ≠ 1 ∧ i.required = kindBytes (operandKind i.opcode) ∧
    s.offset < s.n ∧ s.n < s.offset + i.required ∧ s.n - (i.required - 1) ≤ s.offset ∧
    i.address = s.offset ∧ s.readByte s.offset = some i.opcode ∧ i.descriptor = s.rom.lookup i.opcode ∧
    i.available = s.n - s.offset ∧ i.present = bytesLeft s ∧ (DecodeOutcome.truncated i).code = 3) ∧
  ((List.range 256).filter fun k => kindBytes (operandKind (BitVec.ofNat 8 k)) ≠ 1).length = 48

/-- With the ROMs loaded no opcode is the sentinel's (the spec's own inference: "[derived: from 30_encoding.md rule
R81]"); where a ROM does map an opcode to the sentinel, the outcome is `Unknown` with the sentinel's record, whatever
bytes follow, its code is 1, and the cursor moves by 1 (40_decode_operation.md R118, 10_state.md R28,
60_exceptions.md R262). -/
def Obligations.SentinelAnswersUnknown : Prop :=
  (∀ op : Byte, Rom.contents.lookup op ≠ .unk) ∧
  ∀ (s : State) (op : Byte), s.Ready → s.readByte s.offset = some op → s.rom.lookup op = .unk →
    s.rom.unk = unknownDescriptor →
    step s = .next (s.deliver (.unknown
      ⟨s.offset, op, .unk, "???", "unrecognized instruction " ++ lit2 op, 1, 1⟩)) ∧
    (s.deliver (.unknown
      ⟨s.offset, op, .unk, "???", "unrecognized instruction " ++ lit2 op, 1, 1⟩)).offset = s.offset + 1 ∧
    (DecodeOutcome.unknown ⟨s.offset, op, .unk, "???", "unrecognized instruction " ++ lit2 op, 1, 1⟩).code = 1

/-- With the ROMs loaded no step answers `Unknown` (60_exceptions.md section 1). -/
def Obligations.NoOpcodeAnswersUnknown : Prop :=
  ∀ s t : State, s.RomLoaded → step s = .next t → ∀ r, t.outcome ≠ some (.unknown r)

/-- Two requests whose windows hold the same bytes, with the same `N` and offset, get the same outcome, whatever came
before and whatever the rest of the buffer holds; and no request changes the buffer or the ROMs. The spec's sentence
is R119 of 40_decode_operation.md, which it marks as its own inference ("[derived: from rule R110 and 10_state.md rule
R20]"). -/
def Obligations.OutcomeDependsOnTheWindowAlone : Prop :=
  ∀ s t s' : State, t.Ready → s.rom = t.rom → s.n = t.n → s.offset = t.offset →
    (∀ i, s.offset ≤ i → i < min s.n (s.offset + 3) → s.readByte i = t.readByte i) →
    step s = .next s' →
    (∃ o, s' = s.deliver o ∧ step t = .next (t.deliver o)) ∧
    s'.rom = s.rom ∧ s'.n = s.n ∧ s'.buf = s.buf ∧ ∀ a, s'.readByte a = s.readByte a

/-- A request reads only the bytes of its own instruction, or those of them that exist, and writes none: two states whose
buffers agree on these get the same outcome (20_memory.md R50). -/
def Obligations.RequestsReadOnlyTheirOwnBytes : Prop :=
  ∀ (s t : State) (op : Byte) (e : Descriptor), s.RomLoaded → t.RomLoaded → s.Ready → t.Ready → s.n = t.n →
    s.offset = t.offset → s.readByte s.offset = some op → s.rom.record (s.rom.lookup op) = some e →
    (∀ i, s.offset ≤ i → i < min s.n (s.offset + e.length.bytes) → s.readByte i = t.readByte i) →
    ∃ s' t' : State, step s = .next s' ∧ step t = .next t' ∧ s'.outcome = t'.outcome ∧
      ∀ a, s'.readByte a = s.readByte a

/-- An instruction may start at any offset in the buffer: the byte there is decoded as an opcode, wherever it lies in
another instruction, and the outcome's address is the offset itself (20_memory.md R56). -/
def Obligations.EveryOffsetIsDecoded : Prop :=
  ∀ (s : State) (b : Byte), s.RomLoaded → s.Ready → s.readByte s.offset = some b →
    ∃ o, step s = .next (s.deliver o) ∧ reportedOpcode o = some b ∧ o.address = s.offset

/-- HLT does not stop the block: it is decoded to the text `halt`, the cursor goes on by 1, and where a byte is left the
next request is answered (60_exceptions.md R274). -/
def Obligations.HltDoesNotStopTheBlock : Prop :=
  ∀ s : State, s.RomLoaded → s.Ready → s.readByte s.offset = some 0x76 →
    ∃ t : State, step s = .next t ∧
      t.outcome = some (.decoded
        ⟨s.offset, 0x76, .real 0x76, "HLT", "halt", 1, 1, [], none, none, .empty⟩) ∧
      t.offset = s.offset + 1 ∧ (t.offset < t.n → ∃ u, step t = .next u)

/-- A second byte value and its canonical opcode, in the same buffer at the same offset, get outcomes that differ in the
opcode alone. The spec's sentence is R121 of 40_decode_operation.md, which it marks as its own inference ("[derived:
from rule R110 and 30_encoding.md rule R80]"). -/
def Obligations.SecondByteValuesDecodeAlike : Prop :=
  ∀ (s : State) (a c : Byte), (a, c) ∈ secondByteValues → s.RomLoaded → s.Ready → Memory.wf s.buf →
    s.readByte s.offset = some a →
    ∃ o, step s = .next (s.deliver o) ∧
      step (s.writeBetween s.offset c) = .next ((s.writeBetween s.offset c).deliver (withOpcode c o))

/-- Every `Decoded` or `Unknown` outcome has `bytes_consumed` 1, 2 or 3, and the next offset is at most `N`. The spec's
sentence is R122 of 40_decode_operation.md, which it marks as its own inference ("[derived: from rules R114, R117 and
R118]"). -/
def Obligations.ConsumedBytesLieInTheBuffer : Prop :=
  ∀ s t : State, step s = .next t →
    (∀ r, t.outcome = some (.decoded r) →
      (r.bytesConsumed = 1 ∨ r.bytesConsumed = 2 ∨ r.bytesConsumed = 3) ∧
        s.offset + r.bytesConsumed ≤ s.n ∧ t.offset = s.offset + r.bytesConsumed) ∧
    (∀ r, t.outcome = some (.unknown r) →
      (r.bytesConsumed = 1 ∨ r.bytesConsumed = 2 ∨ r.bytesConsumed = 3) ∧
        s.offset + r.bytesConsumed ≤ s.n ∧ t.offset = s.offset + r.bytesConsumed)

/-- The reference walk of 40_decode_operation.md R123: it starts at offset 0 with an empty list, and issues a request
only while the offset is below `N`; each turn appends the outcome; after `Decoded` and `Unknown` the offset advances by
`bytes_consumed` and the walk goes on while it is below `N`; after a failure the offset stays and the walk stops. That
one step is one turn of the walk is the model's choice (log 1), and that `OutOfRange`, which R123 says cannot occur in a
walk, also ends it is the model's reading (log 20). The turns are those of every step, so they hold of a request
presented outside a walk too, whose outcome the model also appends to the list: that is its own choice (log 23). -/
def Obligations.ReferenceWalkTurns : Prop :=
  (∀ (s : State) (bs : List Byte),
    (s.startWalk bs).offset = 0 ∧ (s.startWalk bs).trace = [] ∧ (s.startWalk bs).n = bs.length ∧
    ((s.startWalk bs).requested = true ↔ 0 < bs.length) ∧
    ∀ k (h : k < bs.length), (s.startWalk bs).readByte k = some bs[k]) ∧
  ∀ s t : State, step s = .next t → ∃ o, t.outcome = some o ∧ t.trace = s.trace ++ [o] ∧
    (∀ r, o = .decoded r → t.offset = s.offset + r.bytesConsumed ∧ (t.requested = true ↔ t.offset < t.n)) ∧
    (∀ r, o = .unknown r → t.offset = s.offset + r.bytesConsumed ∧ (t.requested = true ↔ t.offset < t.n)) ∧
    (∀ i, o = .truncated i → t.offset = s.offset ∧ t.requested = false) ∧
    (∀ i, o = .outOfRange i → t.offset = s.offset ∧ t.requested = false)

/-- If the bytes of a buffer are those of complete instructions, the walk answers one `Decoded` for each, with the
instruction's length, and ends with the offset at `N` and no request presented. The spec's sentence is R124 of
40_decode_operation.md, which it marks as its own inference ("[derived: from rules R110, R122 and R123]"). -/
def Obligations.ConcatenatedInstructionsWalkToTheEnd : Prop :=
  ∀ (s : State) (is : List Instr), s.RomLoaded →
    ∃ t : State, Host.Core.run Sys2Proof.core is.length (s.startWalk (is.flatMap encode)) = .next t ∧
      t.offset = t.n ∧ t.n = (is.flatMap encode).length ∧ t.requested = false ∧ t.trace.length = is.length ∧
      ∀ k (h : k < is.length), ∃ r, t.trace[k]? = some (.decoded r) ∧ r.length = (is[k]).length ∧
        r.opcode = (is[k]).opcode ∧ r.operands = (is[k]).operands

/-- A request is refused when, while it is in progress, a byte of its window is written with another value or the length
changes. A write outside the window, a write in it of the value already there, and a length set to what it is leave its
outcome what it was. The spec asks a model to refuse a changed window (70_reset_and_hazards.md section 3, 20_memory.md
section 6); how the model marks the change, and what it counts as none, is its own choice (log 6). -/
def Obligations.ChangedWindowIsRefused : Prop :=
  ∀ s : State, s.requested = true →
    (∀ (i : Nat) (b : Byte), s.offset ≤ i → i < min s.n (s.offset + 3) → Memory.read s.buf i ≠ b →
      step (s.writeDuring i b) = .refused .windowChanged) ∧
    (∀ n : Nat, n ≠ s.n → step (s.resizeDuring n) = .refused .windowChanged) ∧
    (∀ (i : Nat) (b : Byte), (i < s.offset ∨ min s.n (s.offset + 3) ≤ i) → ∀ o, step s = .next (s.deliver o) →
      step (s.writeDuring i b) = .next ((s.writeDuring i b).deliver o)) ∧
    (∀ i : Nat, Memory.wf s.buf → s.offset ≤ i → i < min s.n (s.offset + 3) → ∀ o, step s = .next (s.deliver o) →
      step (s.writeDuring i (Memory.read s.buf i)) =
        .next ((s.writeDuring i (Memory.read s.buf i)).deliver o)) ∧
    (∀ o, step s = .next (s.deliver o) → step (s.resizeDuring s.n) = .next ((s.resizeDuring s.n).deliver o))

/-- Without a request there is no answer: the model refuses the step, as U8 of 93_implementation_defined.md says
(70_reset_and_hazards.md section 1). That a refusal is the way to say so is the model's choice (log 7), and so is the
second clause, that no request is presented after reset (log 3). -/
def Obligations.NoAnswerWithoutARequest : Prop :=
  (∀ s : State, s.requested = false → step s = .refused .noRequest) ∧ State.reset.requested = false

/-- The next request sees what the caller wrote to the buffer between requests, with nothing done in between: it gets the
outcome of 40_decode_operation.md R110 over the buffer with that byte in it, whichever index was written. So a write at
the offset is the opcode the outcome reports, a write of an operand byte is that operand of a decoded record, and a
write of a byte that exists of a truncated instruction is that byte of `present` (70_reset_and_hazards.md R296). That a
write before the step which answers a presented request counts as between requests is the model's choice (log 21). -/
def Obligations.WritesBetweenRequestsAreSeen : Prop :=
  ∀ (s : State) (i : Nat) (b : Byte), Memory.wf s.buf → i < s.n →
    (s.writeBetween i b).readByte i = some b ∧
    (∀ a, a ≠ i → (s.writeBetween i b).readByte a = s.readByte a) ∧
    (s.RomLoaded → s.Ready →
      ∃ o, step (s.writeBetween i b) = .next ((s.writeBetween i b).deliver o) ∧
        referenceDecode s.rom (fun a => if a = i then b else Memory.read s.buf a) s.n s.offset = some o ∧
        (i = s.offset → reportedOpcode o = some b) ∧
        (∀ r k, o = .decoded r → i = s.offset + k + 1 → k < r.operands.length → r.operands[k]? = some b) ∧
        (∀ t k, o = .truncated t → i = s.offset + k → t.present[k]? = some b))

/-! ### What holds of every state -/

/-- Every step keeps the invariant: the ROMs hold their contents, the buffer is canonical and lies below `N`, the cursor
has not passed `N`, and the walk's list leads to the cursor. -/
def Obligations.StepKeepsTheInvariant : Prop :=
  ∀ s t : State, s.Inv → step s = .next t → t.Inv

/-- Everything a caller does keeps the buffer canonical and below `N`. A walk started, and a byte written between requests
or during one, keep the whole invariant; a buffer presented with any offset, and a length changed during a request, keep
no more than the buffer's part, since the cursor may then lie past `N`, and after the first the list of an earlier walk
need not lead to it (10_state.md section 3, 20_memory.md section 6; log 23). What a write or a change of length during a
request does to the state is the model's choice (log 6, log 17). -/
def Obligations.CallerActionsKeepTheInvariant : Prop :=
  ∀ s : State,
    (s.RomLoaded → ∀ bs, (s.startWalk bs).Inv) ∧
    (∀ bs k, (s.submit bs k).BufferOk) ∧
    (s.Inv → ∀ i b, (s.writeBetween i b).Inv ∧ (s.writeDuring i b).Inv) ∧
    (s.BufferOk → ∀ n, (s.resizeDuring n).BufferOk)

/-- The state after reset meets the invariant: the ROMs hold their contents (10_state.md section 3), and the rest holds of
the empty buffer, the length 0, the cursor 0 and the empty list, which are the model's choice (log 3). -/
def Obligations.ResetMeetsTheInvariant : Prop := State.reset.Inv

/-- After reset the ROMs hold the contents of opcode_table.json, and no outcome has been answered (10_state.md section 3,
70_reset_and_hazards.md section 1). That the buffer is empty, the cursor 0 and no request presented is the model's
choice (log 3). -/
def Obligations.ResetLoadsTheRoms : Prop :=
  State.reset.RomLoaded ∧ State.reset.outcome = none ∧
  State.reset.buf = [] ∧ State.reset.n = 0 ∧ State.reset.offset = 0 ∧ State.reset.requested = false ∧
  State.reset.trace = []

/-- No step changes the ROMs, the buffer, its length, or any byte of it (10_state.md sections 1 and 3, 20_memory.md
section 1). -/
def Obligations.StepChangesNoRomAndNoByte : Prop :=
  ∀ s t : State, step s = .next t →
    t.rom = s.rom ∧ t.buf = s.buf ∧ t.n = s.n ∧ t.steady = s.steady ∧ ∀ a, t.readByte a = s.readByte a

/-- What an instruction's meaning leaves unchanged, for every instruction and every form: the ROMs, the buffer and every
byte of it, its length and the steadiness of the window; the outcome and the walk's list gain the outcome, the cursor is
the one that outcome leads to, and a further request is presented exactly where the walk goes on: where the outcome
consumes bytes and the cursor is then below `N` (log 1, log 20). That the list gains the outcome outside a walk too is
the model's choice (log 23). These are all the fields of the state (10_state.md sections 1 and 3). -/
def Obligations.ExecFrame : Prop :=
  ∀ (i : Instr) (s t : State), exec i s = .next t →
    t.rom = s.rom ∧ t.buf = s.buf ∧ t.n = s.n ∧ t.steady = s.steady ∧ (∀ a, t.readByte a = s.readByte a) ∧
    ∃ o, t.outcome = some o ∧ t.trace = s.trace ++ [o] ∧ t.offset = s.offset + o.bytesConsumed.getD 0 ∧
      t.requested = goesOn o s.offset s.n ∧ (t.requested = true ↔ o.bytesConsumed ≠ none ∧ t.offset < s.n)

/-- Every instruction completes: when all its bytes lie in the buffer, its meaning answers the next state that holds
its `Decoded` record, with every field of 10_state.md R27 and the length for both `length` and `bytes_consumed`; and a
request whose bytes at the offset are the instruction's gets that record (40_decode_operation.md R117). -/
def Obligations.EveryInstructionDecodes : Prop :=
  ∀ (i : Instr) (s : State), s.RomLoaded → s.offset + i.length ≤ s.n →
    ∃ e text, Rom.contents.record (Rom.contents.lookup i.opcode) = some e ∧
      subst i.opcode i.operands e.operation = some text ∧ e.length.bytes = i.length ∧
      let r : DecodedRecord :=
        ⟨s.offset, i.opcode, Rom.contents.lookup i.opcode, e.mnemonic, text, i.length, i.length, i.operands,
          if e.operand = .d8 ∨ e.operand = .port8 then i.operands[0]? else none,
          if e.operand = .d16 ∨ e.operand = .a16 then
            some ((i.operands.getD 1 0).setWidth 16 <<< 8 ||| (i.operands.getD 0 0).setWidth 16)
          else none,
          e.flags⟩
      exec i s = .next (s.deliver (.decoded r)) ∧
      (s.Ready → (∀ k (h : k < (encode i).length), s.readByte (s.offset + k) = some (encode i)[k]) →
        step s = .next (s.deliver (.decoded r)))

/-! ### Operands and text -/

/-- The numeric operands of a decoded record: for kinds `d16` and `a16` the 16-bit operand is the byte at `offset + 2`
over the byte at `offset + 1`, 256 times the one plus the other; for kinds `d8` and `port8` the 8-bit operand is the
byte at `offset + 1`; every other kind has neither (20_memory.md R53, R54, 30_encoding.md R75). -/
def Obligations.ImmediatesAreLittleEndian : Prop :=
  ∀ (s t : State) (r : DecodedRecord) (e : Descriptor), s.RomLoaded → step s = .next t →
    t.outcome = some (.decoded r) → s.rom.record (s.rom.lookup r.opcode) = some e →
    let b2 := Memory.read s.buf (s.offset + 1)
    let b3 := Memory.read s.buf (s.offset + 2)
    r.imm16 = (if e.operand = .d16 ∨ e.operand = .a16 then some ((b3.setWidth 16 <<< 8) ||| b2.setWidth 16)
      else none) ∧
    (∀ v, r.imm16 = some v → v.toNat = 256 * b3.toNat + b2.toNat) ∧
    r.imm8 = (if e.operand = .d8 ∨ e.operand = .port8 then some b2 else none)

/-- `hex2` is two digits and `hex4` four, uppercase, the most significant first, leading zeros kept
(30_encoding.md R90). -/
def Obligations.HexadecimalText : Prop :=
  (∀ v : Byte, hex2 v = String.ofList [digit (v.toNat / 16), digit (v.toNat % 16)]) ∧
  (∀ v : Word16, hex4 v = String.ofList [digit (v.toNat / 4096), digit (v.toNat / 256 % 16),
    digit (v.toNat / 16 % 16), digit (v.toNat % 16)]) ∧
  hex2 0x0A = "0A" ∧ hex4 0x00F0 = "00F0"

/-- Substitution works piece by piece, left to right, copying literal text and giving each placeholder its value
(30_encoding.md R89, R91). -/
def Obligations.SubstitutionReplacesEachPlaceholder : Prop :=
  (∀ (op : Byte) (bs : List Byte) (t u : Template) (x y : String),
    subst op bs t = some x → subst op bs u = some y → subst op bs (t ++ u) = some (x ++ y)) ∧
  (∀ (op : Byte) (bs : List Byte) (text : String), subst op bs [.lit text] = some text) ∧
  ∀ op b2 b3 : Byte, subst op [b2] [.byte2] = some ("#$" ++ hex2 b2) ∧
    subst op [b2, b3] [.byte2] = some ("#$" ++ hex2 b2) ∧ subst op [b2, b3] [.byte3] = some ("#$" ++ hex2 b3) ∧
    subst op [b2, b3] [.word16] = some ("#$" ++ hex4 ((b3.setWidth 16 <<< 8) ||| b2.setWidth 16)) ∧
    subst op [] [.opcode] = some ("#$" ++ hex2 op)

/-! ### The instructions, family by family -/

/-- MOV r1, r2, MOV r, M and MOV M, r (41_data_transfer.md R140, R141, R142): every pair of register codes but M, M. -/
def Obligations.MovRows : Prop :=
  ∀ d r : BitVec 3, ¬ (d = 6 ∧ r = 6) →
    AnswersOneByte (0b01#2 ++ d ++ r) (0b01#2 ++ d ++ r) ("MOV " ++ registerName d ++ ", " ++ registerName r)
      (registerText d ++ " <= " ++ registerText r) .empty

/-- MVI r, d8 and MVI M, d8 (41_data_transfer.md R143, R144). -/
def Obligations.MviRows : Prop :=
  ∀ d : BitVec 3,
    AnswersTwoBytes (0b00#2 ++ d ++ 0b110#3) (0b00#2 ++ d ++ 0b110#3) ("MVI " ++ registerName d ++ ", d8")
      (fun b2 => registerText d ++ " <= " ++ lit2 b2) .empty

/-- LXI rp, d16 and LXI SP, d16 (41_data_transfer.md R145, R146): the high register gets byte 3. -/
def Obligations.LxiRows : Prop :=
  (∀ rp : BitVec 2, rp ≠ 3 →
    AnswersThreeBytes (0b00#2 ++ rp ++ 0b0001#4) (0b00#2 ++ rp ++ 0b0001#4) ("LXI " ++ pairName rp ++ ", d16")
      (fun b2 b3 => pairHigh rp ++ " <= " ++ lit2 b3 ++ ", " ++ pairLow rp ++ " <= " ++ lit2 b2) .empty) ∧
  AnswersThreeBytes 0x31 0x31 "LXI SP, d16" (fun b2 b3 => "(SP) <= " ++ lit4 b2 b3) .empty

/-- LDA, STA, LHLD and SHLD (41_data_transfer.md R147 to R150): the address plus one is text. -/
def Obligations.DirectAddressRows : Prop :=
  AnswersThreeBytes 0x3A 0x3A "LDA a16" (fun b2 b3 => "(A) <= (" ++ lit4 b2 b3 ++ ")") .empty ∧
  AnswersThreeBytes 0x32 0x32 "STA a16" (fun b2 b3 => "(" ++ lit4 b2 b3 ++ ") <= (A)") .empty ∧
  AnswersThreeBytes 0x2A 0x2A "LHLD a16"
    (fun b2 b3 => "(L) <= (" ++ lit4 b2 b3 ++ "), (H) <= (" ++ lit4 b2 b3 ++ " + 1)") .empty ∧
  AnswersThreeBytes 0x22 0x22 "SHLD a16"
    (fun b2 b3 => "(" ++ lit4 b2 b3 ++ ") <= (L), (" ++ lit4 b2 b3 ++ " + 1) <= (H)") .empty

/-- LDAX, STAX and XCHG (41_data_transfer.md R151 to R153). -/
def Obligations.IndirectAndExchangeRows : Prop :=
  AnswersOneByte 0x0A 0x0A "LDAX B" "(A) <= ((B) (C))" .empty ∧
  AnswersOneByte 0x1A 0x1A "LDAX D" "(A) <= ((D) (E))" .empty ∧
  AnswersOneByte 0x02 0x02 "STAX B" "((B) (C)) <= (A)" .empty ∧
  AnswersOneByte 0x12 0x12 "STAX D" "((D) (E)) <= (A)" .empty ∧
  AnswersOneByte 0xEB 0xEB "XCHG" "(H) <=> (D), (L) <=> (E)" .empty

/-- ADD, ADC, SUB and SBB of a register or of memory (42_arithmetic.md R160, R161, R163, R164, R166, R167, R169, R170). -/
def Obligations.AddSubtractRows : Prop :=
  ∀ r : BitVec 3,
    AnswersOneByte (0b10000#5 ++ r) (0b10000#5 ++ r) ("ADD " ++ registerName r)
      ("(A) <= (A) + " ++ registerText r) .all ∧
    AnswersOneByte (0b10001#5 ++ r) (0b10001#5 ++ r) ("ADC " ++ registerName r)
      ("(A) <= (A) + " ++ registerText r ++ " + (CY)") .all ∧
    AnswersOneByte (0b10010#5 ++ r) (0b10010#5 ++ r) ("SUB " ++ registerName r)
      ("(A) <= (A) - " ++ registerText r) .all ∧
    AnswersOneByte (0b10011#5 ++ r) (0b10011#5 ++ r) ("SBB " ++ registerName r)
      ("(A) <= (A) - " ++ registerText r ++ " - (CY)") .all

/-- ADI, ACI, SUI and SBI (42_arithmetic.md R162, R165, R168, R171). -/
def Obligations.AddSubtractImmediateRows : Prop :=
  AnswersTwoBytes 0xC6 0xC6 "ADI d8" (fun b2 => "(A) <= (A) + " ++ lit2 b2) .all ∧
  AnswersTwoBytes 0xCE 0xCE "ACI d8" (fun b2 => "(A) <= (A) + " ++ lit2 b2 ++ " + (CY)") .all ∧
  AnswersTwoBytes 0xD6 0xD6 "SUI d8" (fun b2 => "(A) <= (A) - " ++ lit2 b2) .all ∧
  AnswersTwoBytes 0xDE 0xDE "SBI d8" (fun b2 => "(A) <= (A) - " ++ lit2 b2 ++ " - (CY)") .all

/-- INR and DCR of a register or of memory (42_arithmetic.md R172 to R175): CY is not in the metadata. -/
def Obligations.IncrementDecrementRows : Prop :=
  ∀ d : BitVec 3,
    AnswersOneByte (0b00#2 ++ d ++ 0b100#3) (0b00#2 ++ d ++ 0b100#3) ("INR " ++ registerName d)
      (registerText d ++ " <= " ++ registerText d ++ " + 1") .allButCarry ∧
    AnswersOneByte (0b00#2 ++ d ++ 0b101#3) (0b00#2 ++ d ++ 0b101#3) ("DCR " ++ registerName d)
      (registerText d ++ " <= " ++ registerText d ++ " - 1") .allButCarry

/-- INX, DCX and DAD of a pair or of SP, and DAA (42_arithmetic.md R176 to R182). -/
def Obligations.PairArithmeticRows : Prop :=
  (∀ rp : BitVec 2,
    AnswersOneByte (0b00#2 ++ rp ++ 0b0011#4) (0b00#2 ++ rp ++ 0b0011#4) ("INX " ++ pairName rp)
      (pairText rp ++ " <= " ++ pairText rp ++ " + 1") .empty ∧
    AnswersOneByte (0b00#2 ++ rp ++ 0b1011#4) (0b00#2 ++ rp ++ 0b1011#4) ("DCX " ++ pairName rp)
      (pairText rp ++ " <= " ++ pairText rp ++ " - 1") .empty ∧
    AnswersOneByte (0b00#2 ++ rp ++ 0b1001#4) (0b00#2 ++ rp ++ 0b1001#4) ("DAD " ++ pairName rp)
      ("(H) (L) <= (H) (L) + " ++ pairText rp) .carry) ∧
  AnswersOneByte 0x27 0x27 "DAA" "(A) <= decimal adjust (A)" .all

/-- ANA, XRA, ORA and CMP of a register or of memory (43_logical.md R190, R191, R193, R194, R196, R197, R199, R200). -/
def Obligations.LogicalRows : Prop :=
  ∀ r : BitVec 3,
    AnswersOneByte (0b10100#5 ++ r) (0b10100#5 ++ r) ("ANA " ++ registerName r)
      ("(A) <= (A) & " ++ registerText r) .all ∧
    AnswersOneByte (0b10101#5 ++ r) (0b10101#5 ++ r) ("XRA " ++ registerName r)
      ("(A) <= (A) ^ " ++ registerText r) .all ∧
    AnswersOneByte (0b10110#5 ++ r) (0b10110#5 ++ r) ("ORA " ++ registerName r)
      ("(A) <= (A) | " ++ registerText r) .all ∧
    AnswersOneByte (0b10111#5 ++ r) (0b10111#5 ++ r) ("CMP " ++ registerName r)
      ("(A) - " ++ registerText r) .all

/-- ANI, XRI, ORI and CPI (43_logical.md R192, R195, R198, R201). -/
def Obligations.LogicalImmediateRows : Prop :=
  AnswersTwoBytes 0xE6 0xE6 "ANI d8" (fun b2 => "(A) <= (A) & " ++ lit2 b2) .all ∧
  AnswersTwoBytes 0xEE 0xEE "XRI d8" (fun b2 => "(A) <= (A) ^ " ++ lit2 b2) .all ∧
  AnswersTwoBytes 0xF6 0xF6 "ORI d8" (fun b2 => "(A) <= (A) | " ++ lit2 b2) .all ∧
  AnswersTwoBytes 0xFE 0xFE "CPI d8" (fun b2 => "(A) - " ++ lit2 b2) .all

/-- The rotates, CMA, CMC and STC (43_logical.md R202 to R208). -/
def Obligations.RotateAndCarryRows : Prop :=
  AnswersOneByte 0x07 0x07 "RLC" "(A) <= (A) << 1 | (A7), (CY) <= (A7)" .carry ∧
  AnswersOneByte 0x0F 0x0F "RRC" "(A) <= (A) >> 1 | (A0) << 7, (CY) <= (A0)" .carry ∧
  AnswersOneByte 0x17 0x17 "RAL" "(A) <= (A) << 1 | (CY), (CY) <= (A7)" .carry ∧
  AnswersOneByte 0x1F 0x1F "RAR" "(A) <= (A) >> 1 | (CY) << 7, (CY) <= (A0)" .carry ∧
  AnswersOneByte 0x2F 0x2F "CMA" "(A) <= ~(A)" .empty ∧
  AnswersOneByte 0x3F 0x3F "CMC" "(CY) <= ~(CY)" .carry ∧
  AnswersOneByte 0x37 0x37 "STC" "(CY) <= 1" .carry

/-- JMP with its second byte value, Jcondition, CALL with its three second byte values, Ccondition (44_branch.md R220 to
R223). The block resolves no target and evaluates no condition. -/
def Obligations.JumpAndCallRows : Prop :=
  (∀ op ∈ ([0xC3, 0xCB] : List Byte),
    AnswersThreeBytes op 0xC3 "JMP a16" (fun b2 b3 => "(PC) <= " ++ lit4 b2 b3) .empty) ∧
  (∀ c : BitVec 3,
    AnswersThreeBytes (0b11#2 ++ c ++ 0b010#3) (0b11#2 ++ c ++ 0b010#3) ("J" ++ conditionName c ++ " a16")
      (fun b2 b3 => "if " ++ conditionName c ++ " then (PC) <= " ++ lit4 b2 b3) .empty) ∧
  (∀ op ∈ ([0xCD, 0xDD, 0xED, 0xFD] : List Byte),
    AnswersThreeBytes op 0xCD "CALL a16" (fun b2 b3 => callText ++ lit4 b2 b3) .empty) ∧
  (∀ c : BitVec 3,
    AnswersThreeBytes (0b11#2 ++ c ++ 0b100#3) (0b11#2 ++ c ++ 0b100#3) ("C" ++ conditionName c ++ " a16")
      (fun b2 b3 => "if " ++ conditionName c ++ " then " ++ callText ++ lit4 b2 b3) .empty)

/-- RET with its second byte value, Rcondition, RST n with the target 8 * n in four digits, and PCHL (44_branch.md R224
to R227). -/
def Obligations.ReturnAndRestartRows : Prop :=
  (∀ op ∈ ([0xC9, 0xD9] : List Byte), AnswersOneByte op 0xC9 "RET" returnText .empty) ∧
  (∀ c : BitVec 3,
    AnswersOneByte (0b11#2 ++ c ++ 0b000#3) (0b11#2 ++ c ++ 0b000#3) ("R" ++ conditionName c)
      ("if " ++ conditionName c ++ " then " ++ returnText) .empty) ∧
  (∀ n : BitVec 3,
    AnswersOneByte (0b11#2 ++ n ++ 0b111#3) (0b11#2 ++ n ++ 0b111#3) ("RST " ++ String.ofList [digit n.toNat])
      (callText ++ "#$" ++ hex4 (BitVec.ofNat 16 (8 * n.toNat))) .empty) ∧
  AnswersOneByte 0xE9 0xE9 "PCHL" "(PCH) <= (H), (PCL) <= (L)" .empty

/-- PUSH and POP of a pair and of PSW, XTHL and SPHL (45_stack_io_control.md R240 to R245). -/
def Obligations.StackRows : Prop :=
  (∀ rp : BitVec 2, rp ≠ 3 →
    AnswersOneByte (0b11#2 ++ rp ++ 0b0101#4) (0b11#2 ++ rp ++ 0b0101#4) ("PUSH " ++ pairName rp)
      ("((SP) - 1) <= " ++ pairHigh rp ++ ", ((SP) - 2) <= " ++ pairLow rp ++ ", (SP) <= (SP) - 2") .empty ∧
    AnswersOneByte (0b11#2 ++ rp ++ 0b0001#4) (0b11#2 ++ rp ++ 0b0001#4) ("POP " ++ pairName rp)
      (pairLow rp ++ " <= ((SP)), " ++ pairHigh rp ++ " <= ((SP) + 1), (SP) <= (SP) + 2") .empty) ∧
  AnswersOneByte 0xF5 0xF5 "PUSH PSW" "((SP) - 1) <= (A), ((SP) - 2) <= (FLAGS), (SP) <= (SP) - 2" .empty ∧
  AnswersOneByte 0xF1 0xF1 "POP PSW" "(FLAGS) <= ((SP)), (A) <= ((SP) + 1), (SP) <= (SP) + 2" .all ∧
  AnswersOneByte 0xE3 0xE3 "XTHL" "(L) <=> ((SP)), (H) <=> ((SP) + 1)" .empty ∧
  AnswersOneByte 0xF9 0xF9 "SPHL" "(SP) <= (H) (L)" .empty

/-- IN and OUT (45_stack_io_control.md R246, R247): the port is byte 2, and no port is accessed. -/
def Obligations.PortRows : Prop :=
  AnswersTwoBytes 0xDB 0xDB "IN d8" (fun b2 => "(A) <= (port " ++ lit2 b2 ++ ")") .empty ∧
  AnswersTwoBytes 0xD3 0xD3 "OUT d8" (fun b2 => "(port " ++ lit2 b2 ++ ") <= (A)") .empty

/-- EI, DI, HLT, and NOP with its seven second byte values (45_stack_io_control.md R248 to R251): HLT does not stop the
block. -/
def Obligations.MachineControlRows : Prop :=
  AnswersOneByte 0xFB 0xFB "EI" "enable interrupts" .empty ∧
  AnswersOneByte 0xF3 0xF3 "DI" "disable interrupts" .empty ∧
  AnswersOneByte 0x76 0x76 "HLT" "halt" .empty ∧
  ∀ op ∈ ([0x00, 0x08, 0x10, 0x18, 0x20, 0x28, 0x30, 0x38] : List Byte),
    AnswersOneByte op 0x00 "NOP" "no operation" .empty
end

