-- ==== Sys2Proof/Laws/Decode.lean ====
section
/-!
SUPPORT. The decoder, row by row: what it does with the bytes after an opcode, by the row's format.
-/

namespace Sys2Proof

theorem decode_i1 {op : Byte} {i : Instr} (h : formAt op = .i1 i) (rest : List Byte) :
    decode (op :: rest) = .ok (i, rest) := by
  simp [decode, h]

theorem decode_i2 {op : Byte} {mk : Byte → Instr} (h : formAt op = .i2 mk) (b2 : Byte) (rest : List Byte) :
    decode (op :: b2 :: rest) = .ok (mk b2, rest) := by
  simp [decode, h]

theorem decode_i2_short {op : Byte} {mk : Byte → Instr} (h : formAt op = .i2 mk) :
    decode [op] = .error (.truncated op 2 1) := by
  simp [decode, h]

theorem decode_i3 {op : Byte} {mk : Byte → Byte → Instr} (h : formAt op = .i3 mk) (b2 b3 : Byte)
    (rest : List Byte) : decode (op :: b2 :: b3 :: rest) = .ok (mk b2 b3, rest) := by
  simp [decode, h]

theorem decode_i3_short₁ {op : Byte} {mk : Byte → Byte → Instr} (h : formAt op = .i3 mk) :
    decode [op] = .error (.truncated op 3 1) := by
  simp [decode, h]

theorem decode_i3_short₂ {op : Byte} {mk : Byte → Byte → Instr} (h : formAt op = .i3 mk) (b2 : Byte) :
    decode [op, b2] = .error (.truncated op 3 2) := by
  simp [decode, h]

/-- A row of the opcode map builds instructions of its own opcode, with the operand bytes given to it. -/
def FormFits (op : Byte) : InstrForm → Prop
  | .i1 i => i.opcode = op ∧ i.operands = []
  | .i2 mk => ∀ b2, (mk b2).opcode = op ∧ (mk b2).operands = [b2]
  | .i3 mk => ∀ b2 b3, (mk b2 b3).opcode = op ∧ (mk b2 b3).operands = [b2, b3]

theorem formAt_fits_ofNat (k : Nat) (hk : k < 256) : FormFits (BitVec.ofNat 8 k) (formAt (BitVec.ofNat 8 k)) := by
  interval_cases k <;> clear hk <;>
    first
    | exact ⟨rfl, rfl⟩
    | exact fun _ => ⟨rfl, rfl⟩
    | exact fun _ _ => ⟨rfl, rfl⟩

/-- Every row of the opcode map fits its opcode value. -/
theorem formAt_fits (op : Byte) : FormFits op (formAt op) := by
  simpa using formAt_fits_ofNat op.toNat op.isLt

/-- The number of operand bytes a row takes. -/
def InstrForm.operandCount : InstrForm → Nat
  | .i1 _ => 0
  | .i2 _ => 1
  | .i3 _ => 2

end Sys2Proof
end

