-- ==== Sys2Proof/Laws/Operands.lean ====
section
/-!
SUPPORT. The operand forms: lengths, the little-endian immediate, hexadecimal text, substitution.
-/

namespace Sys2Proof.Machine

theorem InstrLength.bytes_pos (l : InstrLength) : 1 ≤ l.bytes := by cases l <;> decide

theorem InstrLength.bytes_le (l : InstrLength) : l.bytes ≤ 3 := by cases l <;> decide

theorem InstrLength.bytes_inj {l l' : InstrLength} (h : l.bytes = l'.bytes) : l = l' := by
  cases l <;> cases l' <;> simp_all [InstrLength.bytes]

/-- The 16-bit operand as a concatenation. -/
theorem combine_eq_append (b2 b3 : Byte) : combine b2 b3 = b3 ++ b2 := by
  simp only [combine]
  ext i hi
  simp
  grind

@[simp] theorem subst_nil (op : Byte) (bs : List Byte) : subst op bs [] = some "" := rfl

theorem subst_cons (op : Byte) (bs : List Byte) (p : Piece) (t : Template) {a b : String}
    (hp : p.text op bs = some a) (ht : subst op bs t = some b) : subst op bs (p :: t) = some (a ++ b) := by
  simp [subst, hp, ht]

/-- A piece of literal text is copied (30_encoding.md R91). -/
@[simp] theorem Piece.text_lit (op : Byte) (bs : List Byte) (t : String) :
    (Piece.lit t).text op bs = some t := rfl

@[simp] theorem Piece.text_byte2 (op b2 : Byte) (bs : List Byte) :
    Piece.byte2.text op (b2 :: bs) = some ("#$" ++ hex2 b2) := rfl

@[simp] theorem Piece.text_byte3 (op b2 b3 : Byte) (bs : List Byte) :
    Piece.byte3.text op (b2 :: b3 :: bs) = some ("#$" ++ hex2 b3) := rfl

@[simp] theorem Piece.text_word16 (op b2 b3 : Byte) (bs : List Byte) :
    Piece.word16.text op (b2 :: b3 :: bs) = some ("#$" ++ hex4 (combine b2 b3)) := rfl

@[simp] theorem Piece.text_opcode (op : Byte) (bs : List Byte) :
    Piece.opcode.text op bs = some ("#$" ++ hex2 op) := rfl

end Sys2Proof.Machine
end

