-- ==== Sys2Proof/Laws/State.lean ====
section
/-!
SUPPORT. The fields of a state after each operation, so that no proof unfolds a record update.
-/

namespace Sys2Proof.Machine

/-! ### Delivery of an outcome -/

@[simp] theorem State.deliver_rom (o : DecodeOutcome) (s : State) : (s.deliver o).rom = s.rom := rfl
@[simp] theorem State.deliver_buf (o : DecodeOutcome) (s : State) : (s.deliver o).buf = s.buf := rfl
@[simp] theorem State.deliver_n (o : DecodeOutcome) (s : State) : (s.deliver o).n = s.n := rfl
@[simp] theorem State.deliver_offset (o : DecodeOutcome) (s : State) :
    (s.deliver o).offset = cursorAfter o s.offset := rfl
@[simp] theorem State.deliver_requested (o : DecodeOutcome) (s : State) :
    (s.deliver o).requested = goesOn o s.offset s.n := rfl
@[simp] theorem State.deliver_steady (o : DecodeOutcome) (s : State) : (s.deliver o).steady = s.steady := rfl
@[simp] theorem State.deliver_outcome (o : DecodeOutcome) (s : State) : (s.deliver o).outcome = some o := rfl
@[simp] theorem State.deliver_trace (o : DecodeOutcome) (s : State) : (s.deliver o).trace = s.trace ++ [o] := rfl
@[simp] theorem State.deliver_readByte (o : DecodeOutcome) (s : State) (i : Nat) :
    (s.deliver o).readByte i = s.readByte i := rfl

/-- An outcome is in the state it leads to, so equal states after a delivery come from equal outcomes. -/
theorem State.deliver_inj {o o' : DecodeOutcome} {s : State} (h : s.deliver o = s.deliver o') : o = o' := by
  simpa using congrArg State.outcome h

/-! ### A buffer and an offset presented -/

@[simp] theorem State.submit_rom (bs : List Byte) (k : Nat) (s : State) : (s.submit bs k).rom = s.rom := rfl
@[simp] theorem State.submit_buf (bs : List Byte) (k : Nat) (s : State) :
    (s.submit bs k).buf = Memory.load [] 0 bs := rfl
@[simp] theorem State.submit_n (bs : List Byte) (k : Nat) (s : State) : (s.submit bs k).n = bs.length := rfl
@[simp] theorem State.submit_offset (bs : List Byte) (k : Nat) (s : State) : (s.submit bs k).offset = k := rfl
@[simp] theorem State.submit_requested (bs : List Byte) (k : Nat) (s : State) :
    (s.submit bs k).requested = true := rfl
@[simp] theorem State.submit_steady (bs : List Byte) (k : Nat) (s : State) : (s.submit bs k).steady = true := rfl
@[simp] theorem State.submit_outcome (bs : List Byte) (k : Nat) (s : State) :
    (s.submit bs k).outcome = s.outcome := rfl
@[simp] theorem State.submit_trace (bs : List Byte) (k : Nat) (s : State) : (s.submit bs k).trace = s.trace := rfl

/-! ### A walk started -/

@[simp] theorem State.startWalk_rom (bs : List Byte) (s : State) : (s.startWalk bs).rom = s.rom := rfl
@[simp] theorem State.startWalk_buf (bs : List Byte) (s : State) :
    (s.startWalk bs).buf = Memory.load [] 0 bs := rfl
@[simp] theorem State.startWalk_n (bs : List Byte) (s : State) : (s.startWalk bs).n = bs.length := rfl
@[simp] theorem State.startWalk_offset (bs : List Byte) (s : State) : (s.startWalk bs).offset = 0 := rfl
@[simp] theorem State.startWalk_requested (bs : List Byte) (s : State) :
    (s.startWalk bs).requested = decide (0 < bs.length) := rfl
@[simp] theorem State.startWalk_steady (bs : List Byte) (s : State) : (s.startWalk bs).steady = true := rfl
@[simp] theorem State.startWalk_outcome (bs : List Byte) (s : State) :
    (s.startWalk bs).outcome = s.outcome := rfl
@[simp] theorem State.startWalk_trace (bs : List Byte) (s : State) : (s.startWalk bs).trace = [] := rfl

/-! ### The buffer written between requests -/

@[simp] theorem State.writeBetween_rom (i : Nat) (b : Byte) (s : State) : (s.writeBetween i b).rom = s.rom := by
  unfold State.writeBetween; split <;> rfl
@[simp] theorem State.writeBetween_buf (i : Nat) (b : Byte) (s : State) :
    (s.writeBetween i b).buf = if i < s.n then Memory.write s.buf i b else s.buf := by
  unfold State.writeBetween; split <;> rfl
@[simp] theorem State.writeBetween_n (i : Nat) (b : Byte) (s : State) : (s.writeBetween i b).n = s.n := by
  unfold State.writeBetween; split <;> rfl
@[simp] theorem State.writeBetween_offset (i : Nat) (b : Byte) (s : State) :
    (s.writeBetween i b).offset = s.offset := by
  unfold State.writeBetween; split <;> rfl
@[simp] theorem State.writeBetween_requested (i : Nat) (b : Byte) (s : State) :
    (s.writeBetween i b).requested = s.requested := by
  unfold State.writeBetween; split <;> rfl
@[simp] theorem State.writeBetween_steady (i : Nat) (b : Byte) (s : State) :
    (s.writeBetween i b).steady = s.steady := by
  unfold State.writeBetween; split <;> rfl
@[simp] theorem State.writeBetween_outcome (i : Nat) (b : Byte) (s : State) :
    (s.writeBetween i b).outcome = s.outcome := by
  unfold State.writeBetween; split <;> rfl
@[simp] theorem State.writeBetween_trace (i : Nat) (b : Byte) (s : State) :
    (s.writeBetween i b).trace = s.trace := by
  unfold State.writeBetween; split <;> rfl

/-! ### The buffer changed during a request -/

@[simp] theorem State.writeDuring_rom (i : Nat) (b : Byte) (s : State) : (s.writeDuring i b).rom = s.rom := by
  simp [State.writeDuring]
@[simp] theorem State.writeDuring_n (i : Nat) (b : Byte) (s : State) : (s.writeDuring i b).n = s.n := by
  simp [State.writeDuring]
@[simp] theorem State.writeDuring_offset (i : Nat) (b : Byte) (s : State) :
    (s.writeDuring i b).offset = s.offset := by
  simp [State.writeDuring]
@[simp] theorem State.writeDuring_requested (i : Nat) (b : Byte) (s : State) :
    (s.writeDuring i b).requested = s.requested := by
  simp [State.writeDuring]
@[simp] theorem State.writeDuring_buf (i : Nat) (b : Byte) (s : State) :
    (s.writeDuring i b).buf = if i < s.n then Memory.write s.buf i b else s.buf := by
  simp [State.writeDuring]
@[simp] theorem State.writeDuring_steady (i : Nat) (b : Byte) (s : State) :
    (s.writeDuring i b).steady = (s.steady && !(s.inWindow i && decide (Memory.read s.buf i ≠ b))) := rfl
@[simp] theorem State.writeDuring_outcome (i : Nat) (b : Byte) (s : State) :
    (s.writeDuring i b).outcome = s.outcome := by
  simp [State.writeDuring]
@[simp] theorem State.writeDuring_trace (i : Nat) (b : Byte) (s : State) :
    (s.writeDuring i b).trace = s.trace := by
  simp [State.writeDuring]

@[simp] theorem State.resizeDuring_rom (m : Nat) (s : State) : (s.resizeDuring m).rom = s.rom := rfl
@[simp] theorem State.resizeDuring_buf (m : Nat) (s : State) :
    (s.resizeDuring m).buf = Memory.below s.buf m := rfl
@[simp] theorem State.resizeDuring_n (m : Nat) (s : State) : (s.resizeDuring m).n = m := rfl
@[simp] theorem State.resizeDuring_offset (m : Nat) (s : State) : (s.resizeDuring m).offset = s.offset := rfl
@[simp] theorem State.resizeDuring_requested (m : Nat) (s : State) :
    (s.resizeDuring m).requested = s.requested := rfl
@[simp] theorem State.resizeDuring_steady (m : Nat) (s : State) :
    (s.resizeDuring m).steady = (s.steady && decide (m = s.n)) := rfl
@[simp] theorem State.resizeDuring_outcome (m : Nat) (s : State) : (s.resizeDuring m).outcome = s.outcome := rfl
@[simp] theorem State.resizeDuring_trace (m : Nat) (s : State) : (s.resizeDuring m).trace = s.trace := rfl

/-! ### An instruction's bytes placed at the cursor -/

@[simp] theorem State.withFetchWord_rom (s : State) (k w : Nat) : (s.withFetchWord k w).rom = s.rom := rfl
@[simp] theorem State.withFetchWord_buf (s : State) (k w : Nat) :
    (s.withFetchWord k w).buf = Memory.load s.buf s.offset (tableWordBytes k w) := rfl
@[simp] theorem State.withFetchWord_n (s : State) (k w : Nat) :
    (s.withFetchWord k w).n = max s.n (s.offset + 3) := rfl
@[simp] theorem State.withFetchWord_offset (s : State) (k w : Nat) : (s.withFetchWord k w).offset = s.offset := rfl
@[simp] theorem State.withFetchWord_requested (s : State) (k w : Nat) :
    (s.withFetchWord k w).requested = true := rfl
@[simp] theorem State.withFetchWord_steady (s : State) (k w : Nat) : (s.withFetchWord k w).steady = true := rfl
@[simp] theorem State.withFetchWord_outcome (s : State) (k w : Nat) :
    (s.withFetchWord k w).outcome = s.outcome := rfl
@[simp] theorem State.withFetchWord_trace (s : State) (k w : Nat) : (s.withFetchWord k w).trace = s.trace := rfl

end Sys2Proof.Machine
end

