-- ==== Sys2Proof/Laws/Window.lean ====
section
/-!
SUPPORT. The fetch window (10_state.md R25): what it holds, by how many bytes are left.
-/

namespace Sys2Proof.Machine

/-- A byte of the buffer is read exactly when its index is below `N`. -/
theorem State.readByte_eq_some {s : State} {i : Nat} {b : Byte} :
    s.readByte i = some b ↔ i < s.n ∧ Memory.read s.buf i = b := by
  unfold State.readByte
  split <;> simp_all

@[simp] theorem State.window_length (s : State) : s.window.length = min 3 (s.n - s.offset) := by
  simp [State.window, State.avail]

/-- No byte is left. -/
theorem State.window_none {s : State} (h : s.n ≤ s.offset) : s.window = [] := by
  have : s.avail = 0 := by unfold State.avail; omega
  simp [State.window, this]

/-- One byte is left. -/
theorem State.window_one {s : State} (h : s.n = s.offset + 1) : s.window = [Memory.read s.buf s.offset] := by
  have : s.avail = 1 := by unfold State.avail; omega
  simp [State.window, this, List.range_succ]

/-- Two bytes are left. -/
theorem State.window_two {s : State} (h : s.n = s.offset + 2) :
    s.window = [Memory.read s.buf s.offset, Memory.read s.buf (s.offset + 1)] := by
  have : s.avail = 2 := by unfold State.avail; omega
  simp [State.window, this, List.range_succ]

/-- Three bytes or more are left. -/
theorem State.window_three {s : State} (h : s.offset + 3 ≤ s.n) :
    s.window = [Memory.read s.buf s.offset, Memory.read s.buf (s.offset + 1),
      Memory.read s.buf (s.offset + 2)] := by
  have : s.avail = 3 := by unfold State.avail; omega
  simp [State.window, this, List.range_succ]

/-- The window begins with the byte at the offset. -/
theorem State.window_cons {s : State} (h : s.offset < s.n) :
    s.window = Memory.read s.buf s.offset :: s.window.tail := by
  rcases (by omega : s.n = s.offset + 1 ∨ s.n = s.offset + 2 ∨ s.offset + 3 ≤ s.n) with h | h | h
  · simp [State.window_one h]
  · simp [State.window_two h]
  · simp [State.window_three h]

/-- The window is empty exactly when the offset is not in the buffer. -/
theorem State.window_eq_nil {s : State} : s.window = [] ↔ s.n ≤ s.offset := by
  rw [← List.length_eq_zero_iff, State.window_length]
  omega

/-- Buffers that agree on the window's bytes have the same window. -/
theorem State.window_congr {s t : State} (hn : s.n = t.n) (ho : s.offset = t.offset)
    (h : ∀ i, s.offset ≤ i → i < min s.n (s.offset + 3) → Memory.read s.buf i = Memory.read t.buf i) :
    s.window = t.window := by
  have ha : s.avail = t.avail := by simp [State.avail, hn, ho]
  simp only [State.window, ha, ho]
  refine List.map_congr_left fun k hk => ?_
  rw [← ho]
  refine h _ (by omega) ?_
  have := List.mem_range.mp hk
  unfold State.avail at this
  omega

end Sys2Proof.Machine
end

