-- ==== Sys2Proof/Laws/Exec.lean ====
section
/-!
SUPPORT. What the answer to a request can be, said once, and that every meaning is that answer for its own opcode and
operand bytes; then what a step can do.
-/

namespace Sys2Proof.Machine

/-- Every meaning is the answer for its instruction's opcode and operand bytes. -/
theorem exec_eq_respond (i : Instr) (s : State) : exec i s = respond i.opcode i.operands s := by
  cases i <;> rfl

/-! ### The answer to a request -/

/-- The offset is not in the buffer (40_decode_operation.md R111). -/
theorem answerOf_outOfRange (rom : Rom) (op : Byte) (bs : List Byte) {r : Request} (h : r.n ≤ r.offset) :
    answerOf rom op bs r = some (.outOfRange ⟨r.offset, r.n⟩) := by
  simp [answerOf, Nat.not_lt.mpr h]

/-- The record's length passes the end of the buffer (40_decode_operation.md R114). -/
theorem answerOf_truncated {rom : Rom} {op : Byte} {e : Descriptor} (bs : List Byte) {r : Request}
    (he : rom.record (rom.lookup op) = some e) (h : r.offset < r.n) (hl : r.n < r.offset + e.length.bytes) :
    answerOf rom op bs r = some (.truncated (truncInfo r op (rom.lookup op) e.length.bytes)) := by
  simp [answerOf, h, he, hl]

/-- The sentinel (40_decode_operation.md R118). -/
theorem answerOf_unknown {rom : Rom} {op : Byte} {text : String} (bs : List Byte) {r : Request}
    (hd : rom.lookup op = .unk) (h : r.offset < r.n) (hl : r.offset + rom.unk.length.bytes ≤ r.n)
    (ht : subst op [] rom.unk.operation = some text) :
    answerOf rom op bs r = some (.unknown (unknownRecord r.offset op rom.unk text)) := by
  simp [answerOf, h, hd, Rom.record, Nat.not_lt.mpr hl, ht]

/-- A real descriptor (40_decode_operation.md R117): the operand bytes are the first of those that follow. -/
theorem answerOf_decoded {rom : Rom} {op c : Byte} {e : Descriptor} {text : String} {bs : List Byte} {r : Request}
    (hd : rom.lookup op = .real c) (he : rom.record (.real c) = some e) (h : r.offset + e.length.bytes ≤ r.n)
    (hb : e.length.bytes ≤ bs.length + 1)
    (ht : subst op (bs.take (e.length.bytes - 1)) e.operation = some text) :
    answerOf rom op bs r =
      some (.decoded (decodedRecord r.offset op (.real c) e (bs.take (e.length.bytes - 1)) text)) := by
  have hp := e.length.bytes_pos
  have h1 : r.offset < r.n := by omega
  have h2 : min (e.length.bytes - 1) bs.length + 1 = e.length.bytes := by omega
  simp [answerOf, h1, hd, he, Nat.not_lt.mpr h, ht, h2]

/-- Everything an answer can be: which outcome, about the request's offset, and when (60_exceptions.md R264). -/
theorem answerOf_cases {rom : Rom} {op : Byte} {bs : List Byte} {r : Request} {o : DecodeOutcome}
    (h : answerOf rom op bs r = some o) :
    (r.n ≤ r.offset ∧ o = .outOfRange ⟨r.offset, r.n⟩) ∨
    (r.offset < r.n ∧ ∃ e, rom.record (rom.lookup op) = some e ∧
      ((r.n < r.offset + e.length.bytes ∧ o = .truncated (truncInfo r op (rom.lookup op) e.length.bytes)) ∨
       (r.offset + e.length.bytes ≤ r.n ∧ rom.lookup op = .unk ∧
         ∃ text, subst op [] e.operation = some text ∧ o = .unknown (unknownRecord r.offset op e text)) ∨
       (r.offset + e.length.bytes ≤ r.n ∧ rom.lookup op ≠ .unk ∧ e.length.bytes ≤ bs.length + 1 ∧
         ∃ text, subst op (bs.take (e.length.bytes - 1)) e.operation = some text ∧
           o = .decoded (decodedRecord r.offset op (rom.lookup op) e (bs.take (e.length.bytes - 1)) text)))) := by
  unfold answerOf at h
  split at h
  · rename_i hr
    refine .inr ⟨hr, ?_⟩
    cases he : rom.record (rom.lookup op) with
    | none => simp [he] at h
    | some e =>
      refine ⟨e, rfl, ?_⟩
      simp only [he] at h
      split at h
      · rename_i hl
        exact .inl ⟨hl, by simpa using h.symm⟩
      · rename_i hl
        rw [Nat.not_lt] at hl
        cases hd : rom.lookup op with
        | unk =>
          simp only [hd, Option.map_eq_some_iff] at h
          obtain ⟨text, ht, rfl⟩ := h
          exact .inr (.inl ⟨hl, rfl, text, ht, rfl⟩)
        | real c =>
          simp only [hd] at h
          split at h
          · rename_i hb
            obtain ⟨text, ht, rfl⟩ := Option.map_eq_some_iff.mp h
            refine .inr (.inr ⟨hl, by simp, ?_, text, ht, rfl⟩)
            simp only [List.length_take] at hb
            omega
          · simp at h
  · rename_i hr
    exact .inl ⟨by omega, by simpa using h.symm⟩

/-- An answer is about the request's offset, and the bytes it consumes lie in the buffer. -/
theorem answerOf_bounds {rom : Rom} {op : Byte} {bs : List Byte} {r : Request} {o : DecodeOutcome}
    (h : answerOf rom op bs r = some o) :
    o.address = r.offset ∧ ∀ c, o.bytesConsumed = some c → 1 ≤ c ∧ c ≤ 3 ∧ r.offset + c ≤ r.n := by
  rcases answerOf_cases h with ⟨-, rfl⟩ | ⟨hr, e, -, ⟨-, rfl⟩ | ⟨-, -, text, -, rfl⟩ | ⟨hl, -, -, text, -, rfl⟩⟩
  · exact ⟨rfl, fun c hc => by simp [DecodeOutcome.bytesConsumed] at hc⟩
  · exact ⟨rfl, fun c hc => by simp [DecodeOutcome.bytesConsumed] at hc⟩
  · refine ⟨rfl, fun c hc => ?_⟩
    simp only [DecodeOutcome.bytesConsumed, unknownRecord, Option.some.injEq] at hc
    omega
  · refine ⟨rfl, fun c hc => ?_⟩
    simp only [DecodeOutcome.bytesConsumed, decodedRecord, Option.some.injEq] at hc
    have := e.length.bytes_pos
    have := e.length.bytes_le
    omega

/-! ### The delivered answer -/

/-- A response that answers a next state delivers the answer to the request. -/
theorem respond_next {op : Byte} {bs : List Byte} {s t : State} (h : respond op bs s = .next t) :
    ∃ o, answerOf s.rom op bs s.request = some o ∧ t = s.deliver o := by
  unfold respond at h
  split at h
  · rename_i o ho
    exact ⟨o, ho, by simpa using h.symm⟩
  · simp at h

theorem respond_of_answer {op : Byte} {bs : List Byte} {s : State} {o : DecodeOutcome}
    (h : answerOf s.rom op bs s.request = some o) : respond op bs s = .next (s.deliver o) := by
  simp [respond, h]

/-- A response is never refused. -/
theorem respond_not_refused (op : Byte) (bs : List Byte) (s : State) (r : Refusal) : respond op bs s ≠ .refused r := by
  unfold respond
  split <;> simp

/-! ### A step -/

/-- A state that presents a request whose window holds still is not turned away. -/
theorem turnedAway_of_ready {s : State} (hr : s.requested = true) (hs : s.steady = true) : s.turnedAway = none := by
  simp [State.turnedAway, hr, hs]

theorem turnedAway_eq_none {s : State} : s.turnedAway = none ↔ s.requested = true ∧ s.steady = true := by
  unfold State.turnedAway
  cases s.requested <;> cases s.steady <;> simp

/-- A step whose window holds no byte. -/
theorem step_no_byte {s : State} (hr : s.requested = true) (hs : s.steady = true) (h : s.n ≤ s.offset) :
    step s = .next (s.deliver (.outOfRange ⟨s.offset, s.n⟩)) := by
  simp [step, turnedAway_of_ready hr hs, State.window_none h, respondOutOfRange]

/-- A step whose window begins with an instruction's bytes runs it. -/
theorem step_decodes {s : State} {i : Instr} {rest : List Byte} (hr : s.requested = true) (hs : s.steady = true)
    (h : decode s.window = .ok (i, rest)) : step s = exec i s := by
  cases hw : s.window with
  | nil => simp [hw, decode] at h
  | cons op bs =>
    rw [hw] at h
    simp [step, turnedAway_of_ready hr hs, hw, h]

/-- A step whose window holds an opcode and too few bytes answers for that opcode and what follows it. -/
theorem step_short {s : State} {op : Byte} {bs : List Byte} {e : DecodeError} (hr : s.requested = true)
    (hs : s.steady = true) (hw : s.window = op :: bs) (h : decode (op :: bs) = .error e) :
    step s = respond op bs s := by
  simp [step, turnedAway_of_ready hr hs, hw, h]

/-- What the bytes of a window decode to, when the first is `op`: an instruction of that opcode with the bytes its row
takes, or too few bytes. -/
theorem decode_cons_cases (op : Byte) (bs : List Byte) :
    (∃ i rest, decode (op :: bs) = .ok (i, rest) ∧ i.opcode = op ∧
      i.operands = bs.take (formAt op).operandCount ∧ i.operands.length = (formAt op).operandCount) ∨
    (∃ e, decode (op :: bs) = .error e ∧ bs.length < (formAt op).operandCount) := by
  have hf := formAt_fits op
  cases h : formAt op with
  | i1 i =>
    rw [h] at hf
    exact .inl ⟨i, bs, decode_i1 h bs, hf.1, by simp [hf.2, InstrForm.operandCount], by simp [hf.2, InstrForm.operandCount]⟩
  | i2 mk =>
    rw [h] at hf
    cases bs with
    | nil => exact .inr ⟨_, decode_i2_short h, by simp [InstrForm.operandCount]⟩
    | cons b2 bs =>
      exact .inl ⟨_, _, decode_i2 h b2 bs, (hf b2).1, by simp [(hf b2).2, InstrForm.operandCount],
        by simp [(hf b2).2, InstrForm.operandCount]⟩
  | i3 mk =>
    rw [h] at hf
    rcases bs with - | ⟨b2, - | ⟨b3, bs⟩⟩
    · exact .inr ⟨_, decode_i3_short₁ h, by simp [InstrForm.operandCount]⟩
    · exact .inr ⟨_, decode_i3_short₂ h b2, by simp [InstrForm.operandCount]⟩
    · exact .inl ⟨_, _, decode_i3 h b2 b3 bs, (hf b2 b3).1, by simp [(hf b2 b3).2, InstrForm.operandCount],
        by simp [(hf b2 b3).2, InstrForm.operandCount]⟩

/-- Everything a step can do that answers a next state: an answer to the request was delivered. -/
theorem step_next {s t : State} (h : step s = .next t) :
    s.requested = true ∧ s.steady = true ∧
    ((s.n ≤ s.offset ∧ t = s.deliver (.outOfRange ⟨s.offset, s.n⟩)) ∨
     ∃ op rest bs o, s.window = op :: rest ∧ answerOf s.rom op bs s.request = some o ∧ t = s.deliver o) := by
  unfold step at h
  split at h
  · simp at h
  · rename_i ha
    obtain ⟨hr, hs⟩ := turnedAway_eq_none.mp ha
    refine ⟨hr, hs, ?_⟩
    split at h
    · rename_i hw
      exact .inl ⟨State.window_eq_nil.mp hw, by simpa [respondOutOfRange] using h.symm⟩
    · rename_i op rest hw
      right
      have key : ∃ bs, respond op bs s = .next t := by
        rcases decode_cons_cases op rest with ⟨i, r, hd, hop, -, -⟩ | ⟨e, hd, -⟩
        · simp only [hd, exec_eq_respond, hop] at h
          exact ⟨_, h⟩
        · simp only [hd] at h
          exact ⟨_, h⟩
      obtain ⟨bs, hk⟩ := key
      obtain ⟨o, ho, ht⟩ := respond_next hk
      exact ⟨op, rest, bs, o, hw, ho, ht⟩

/-- A step on a request whose opcode is in the buffer: the answer for that opcode and the operand bytes its row takes, or
the fewer that exist. -/
theorem step_respond {s : State} {op : Byte} (hr : s.requested = true) (hs : s.steady = true)
    (h : s.readByte s.offset = some op) :
    ∃ rest, s.window = op :: rest ∧ step s = respond op
      (if rest.length < (formAt op).operandCount then rest else rest.take (formAt op).operandCount) s := by
  obtain ⟨h1, h2⟩ := State.readByte_eq_some.mp h
  have hw := State.window_cons h1
  rw [h2] at hw
  refine ⟨_, hw, ?_⟩
  rcases decode_cons_cases op s.window.tail with ⟨i, rest, hd, ho, hb, hb'⟩ | ⟨e, hd, hlt⟩
  · rw [← hw] at hd
    have hn : ¬ s.window.tail.length < (formAt op).operandCount := by
      rw [hb, List.length_take] at hb'
      omega
    rw [step_decodes hr hs hd, exec_eq_respond, ho, hb, if_neg hn]
  · rw [step_short hr hs hw hd, if_pos hlt]

/-- What a step that answers a next state delivers: an outcome about the request's offset, whose consumed bytes lie in
the buffer. -/
theorem step_deliver {s t : State} (h : step s = .next t) :
    ∃ o, t = s.deliver o ∧ o.address = s.offset ∧
      ∀ c, o.bytesConsumed = some c → 1 ≤ c ∧ c ≤ 3 ∧ s.offset + c ≤ s.n := by
  obtain ⟨-, -, ⟨-, rfl⟩ | ⟨op, rest, bs, o, -, ho, rfl⟩⟩ := step_next h
  · exact ⟨_, rfl, rfl, fun c hc => by simp [DecodeOutcome.bytesConsumed] at hc⟩
  · exact ⟨o, rfl, (answerOf_bounds ho).1, (answerOf_bounds ho).2⟩

/-- An instruction has as many operand bytes as its row takes. -/
theorem operands_length (i : Instr) : i.operands.length = (formAt i.opcode).operandCount := by
  cases i <;> simp only [Instr.opcode, Instr.operands] <;> rfl

end Sys2Proof.Machine
end

