-- ==== Sys2Proof/Laws/Memory.lean ====
section
/-!
SUPPORT. The laws of the buffer: a read after a write, and that every operation keeps the canonical form.
-/

namespace Sys2Proof.Machine

@[simp] theorem Memory.read_nil (a : Nat) : Memory.read [] a = Memory.unlisted := rfl

/-- An index that no cell lists reads as the unlisted byte. -/
theorem Memory.read_of_not_listed {m : Memory} {a : Nat} (h : ∀ c ∈ m, c.1 ≠ a) :
    Memory.read m a = Memory.unlisted := by
  induction m with
  | nil => rfl
  | cons c m ih =>
    obtain ⟨x, y⟩ := c
    have hx : x ≠ a := h (x, y) (by simp)
    simp only [Memory.read, if_neg hx]
    exact ih fun c hc => h c (by simp [hc])

/-- A canonical buffer reads the bytes its cells list. -/
theorem Memory.read_of_mem {m : Memory} (hm : Memory.wf m) {c : Host.Cell} (hc : c ∈ m) :
    Memory.read m c.1 = c.2 := by
  induction m with
  | nil => simp at hc
  | cons d m ih =>
    obtain ⟨hp, hv⟩ := hm
    rw [List.pairwise_cons] at hp
    obtain ⟨x, y⟩ := d
    rcases List.mem_cons.mp hc with rfl | hc
    · simp [Memory.read]
    · have : x < c.1 := hp.1 c hc
      simp only [Memory.read, if_neg (Nat.ne_of_lt this)]
      exact ih ⟨hp.2, fun c hc => hv c (by simp [hc])⟩ hc

/-- The cells of a written buffer are the written one and cells of the buffer before. -/
theorem Memory.mem_write {m : Memory} {a : Nat} {b : Byte} {c : Host.Cell} (h : c ∈ Memory.write m a b) :
    (c = (a, b) ∧ b ≠ Memory.unlisted) ∨ c ∈ m := by
  induction m with
  | nil =>
    simp only [Memory.write] at h
    split at h <;> simp_all
  | cons d m ih =>
    obtain ⟨x, y⟩ := d
    simp only [Memory.write] at h
    split at h
    · split at h
      · exact .inr h
      · rcases List.mem_cons.mp h with h | h
        · exact .inl ⟨h, ‹_›⟩
        · exact .inr h
    · split at h
      · split at h
        · exact .inr (List.mem_cons_of_mem _ h)
        · rcases List.mem_cons.mp h with h | h
          · exact .inl ⟨h, ‹_›⟩
          · exact .inr (List.mem_cons_of_mem _ h)
      · rcases List.mem_cons.mp h with h | h
        · exact .inr (by simp [h])
        · rcases ih h with h | h
          · exact .inl h
          · exact .inr (List.mem_cons_of_mem _ h)

/-- A write keeps the canonical form. -/
theorem Memory.write_wf {m : Memory} (hm : Memory.wf m) (a : Nat) (b : Byte) : Memory.wf (Memory.write m a b) := by
  refine ⟨?_, fun c hc => ?_⟩
  · obtain ⟨hp, -⟩ := hm
    induction m with
    | nil =>
      simp only [Memory.write]
      split <;> simp
    | cons d m ih =>
      obtain ⟨x, y⟩ := d
      have hp' := List.pairwise_cons.mp hp
      simp only [Memory.write]
      split
      · rename_i hax
        split
        · exact hp
        · refine List.pairwise_cons.mpr ⟨fun c hc => ?_, hp⟩
          rcases List.mem_cons.mp hc with rfl | hc
          · exact hax
          · exact Nat.lt_trans hax (hp'.1 c hc)
      · split
        · rename_i hax
          split
          · exact hp'.2
          · subst hax
            exact List.pairwise_cons.mpr ⟨hp'.1, hp'.2⟩
        · refine List.pairwise_cons.mpr ⟨fun c hc => ?_, ih hp'.2⟩
          rcases Memory.mem_write hc with ⟨rfl, -⟩ | hc
          · simp only; omega
          · exact hp'.1 c hc
  · rcases Memory.mem_write hc with ⟨rfl, h⟩ | h
    · exact h
    · exact hm.2 c h

/-- A read of the written index gives the written byte. -/
theorem Memory.read_write_same {m : Memory} (hm : Memory.wf m) (a : Nat) (b : Byte) :
    Memory.read (Memory.write m a b) a = b := by
  obtain ⟨hp, -⟩ := hm
  induction m with
  | nil =>
    simp only [Memory.write]
    split
    · simp_all
    · simp [Memory.read]
  | cons d m ih =>
    obtain ⟨x, y⟩ := d
    have hp' := List.pairwise_cons.mp hp
    simp only [Memory.write]
    split
    · rename_i hax
      split
      · rename_i hb
        rw [hb]
        refine Memory.read_of_not_listed fun c hc => ?_
        rcases List.mem_cons.mp hc with rfl | hc
        · simp only; omega
        · have := hp'.1 c hc
          omega
      · simp [Memory.read]
    · split
      · rename_i hax
        split
        · rename_i hb
          rw [hb]
          refine Memory.read_of_not_listed fun c hc => ?_
          have := hp'.1 c hc
          omega
        · simp [Memory.read]
      · rename_i h₁ h₂
        simp only [Memory.read, if_neg (Ne.symm h₂)]
        exact ih hp'.2

/-- A read of any other index gives what it gave before. -/
theorem Memory.read_write_other (m : Memory) {a a' : Nat} (h : a' ≠ a) (b : Byte) :
    Memory.read (Memory.write m a b) a' = Memory.read m a' := by
  induction m with
  | nil =>
    simp only [Memory.write]
    split <;> simp [Memory.read, Ne.symm h]
  | cons d m ih =>
    obtain ⟨x, y⟩ := d
    simp only [Memory.write]
    split
    · split
      · rfl
      · simp [Memory.read, Ne.symm h]
    · split
      · rename_i hax
        subst hax
        split <;> simp [Memory.read, Ne.symm h]
      · simp only [Memory.read]
        split
        · rfl
        · exact ih

/-- Cutting a buffer keeps the canonical form. -/
theorem Memory.below_wf {m : Memory} (hm : Memory.wf m) (n : Nat) : Memory.wf (Memory.below m n) :=
  ⟨hm.1.filter _, fun c hc => hm.2 c (List.mem_of_mem_filter hc)⟩

/-- The cells of a cut buffer lie below the cut. -/
theorem Memory.lt_of_mem_below {m : Memory} {n : Nat} {c : Host.Cell} (h : c ∈ Memory.below m n) : c.1 < n := by
  simpa using (List.mem_filter.mp h).2

/-- An index below the cut reads as before. -/
theorem Memory.read_below (m : Memory) {n a : Nat} (h : a < n) :
    Memory.read (Memory.below m n) a = Memory.read m a := by
  induction m with
  | nil => rfl
  | cons d m ih =>
    obtain ⟨x, y⟩ := d
    by_cases hx : x < n
    · have hb : Memory.below ((x, y) :: m) n = (x, y) :: Memory.below m n := by simp [Memory.below, hx]
      simp only [hb, Memory.read]
      split
      · rfl
      · exact ih
    · have hb : Memory.below ((x, y) :: m) n = Memory.below m n := by simp [Memory.below, hx]
      have hxa : x ≠ a := by omega
      simp only [hb, Memory.read, if_neg hxa]
      exact ih

/-- Laying out bytes keeps the canonical form. -/
theorem Memory.load_wf {m : Memory} (hm : Memory.wf m) (base : Nat) (bs : List Byte) :
    Memory.wf (Memory.load m base bs) := by
  induction bs generalizing m base with
  | nil => exact hm
  | cons b bs ih => exact ih (Memory.write_wf hm base b) (base + 1)

/-- Every index outside the bytes laid out reads as before. -/
theorem Memory.read_load_outside (m : Memory) {base a : Nat} (bs : List Byte)
    (h : a < base ∨ base + bs.length ≤ a) : Memory.read (Memory.load m base bs) a = Memory.read m a := by
  induction bs generalizing m base with
  | nil => rfl
  | cons b bs ih =>
    simp only [List.length_cons] at h
    simp only [Memory.load]
    rw [ih _ (by omega), Memory.read_write_other _ (by omega)]

/-- Every index inside the bytes laid out reads as the byte laid out there. -/
theorem Memory.read_load_inside {m : Memory} (hm : Memory.wf m) (base k : Nat) (bs : List Byte)
    (h : k < bs.length) : Memory.read (Memory.load m base bs) (base + k) = bs[k] := by
  induction bs generalizing m base k with
  | nil => simp at h
  | cons b bs ih =>
    simp only [Memory.load]
    cases k with
    | zero =>
      rw [Memory.read_load_outside _ _ (by omega)]
      simpa using Memory.read_write_same hm base b
    | succ k =>
      have := ih (Memory.write_wf hm base b) (base + 1) k (by simpa using h)
      simpa [Nat.add_assoc, Nat.add_comm 1 k] using this

/-- The cells of a buffer after bytes are laid out: theirs, or cells of the buffer before. -/
theorem Memory.mem_load {m : Memory} {base : Nat} {bs : List Byte} {c : Host.Cell}
    (h : c ∈ Memory.load m base bs) : c.1 < base + bs.length ∨ c ∈ m := by
  induction bs generalizing m base with
  | nil => exact .inr h
  | cons b bs ih =>
    simp only [Memory.load] at h
    simp only [List.length_cons]
    rcases ih h with h | h
    · left; omega
    · rcases Memory.mem_write h with ⟨rfl, -⟩ | h
      · left; simp only; omega
      · exact .inr h

/-- The buffer at reset is canonical. -/
theorem Memory.reset_wf : Memory.wf State.reset.buf := by decide

end Sys2Proof.Machine
end

