-- ==== Sys2Proof/Laws/PerInstr.lean ====
section
/-!
SUPPORT. Per instruction: decoding the bytes of the instruction, whatever follows them, gives it back and leaves what
follows (30_encoding.md R70 to R73).
-/

namespace Sys2Proof.Laws.RoundTrip

/-- Decoding an instruction's bytes gives it back and leaves the bytes after it. -/
def Statement (i : Instr) : Prop := ∀ rest, decode (encode i ++ rest) = .ok (i, rest)

theorem nop00 : Statement (.nop00) :=
  fun rest => (rfl : decode (0x00 :: rest) = .ok (.nop00, rest))
theorem lxiB (b2 b3 : Byte) : Statement (.lxiB b2 b3) :=
  fun rest => (rfl : decode (0x01 :: b2 :: b3 :: rest) = .ok (.lxiB b2 b3, rest))
theorem staxB : Statement (.staxB) :=
  fun rest => (rfl : decode (0x02 :: rest) = .ok (.staxB, rest))
theorem inxB : Statement (.inxB) :=
  fun rest => (rfl : decode (0x03 :: rest) = .ok (.inxB, rest))
theorem inrB : Statement (.inrB) :=
  fun rest => (rfl : decode (0x04 :: rest) = .ok (.inrB, rest))
theorem dcrB : Statement (.dcrB) :=
  fun rest => (rfl : decode (0x05 :: rest) = .ok (.dcrB, rest))
theorem mviB (b2 : Byte) : Statement (.mviB b2) :=
  fun rest => (rfl : decode (0x06 :: b2 :: rest) = .ok (.mviB b2, rest))
theorem rlc : Statement (.rlc) :=
  fun rest => (rfl : decode (0x07 :: rest) = .ok (.rlc, rest))
theorem nop08 : Statement (.nop08) :=
  fun rest => (rfl : decode (0x08 :: rest) = .ok (.nop08, rest))
theorem dadB : Statement (.dadB) :=
  fun rest => (rfl : decode (0x09 :: rest) = .ok (.dadB, rest))
theorem ldaxB : Statement (.ldaxB) :=
  fun rest => (rfl : decode (0x0A :: rest) = .ok (.ldaxB, rest))
theorem dcxB : Statement (.dcxB) :=
  fun rest => (rfl : decode (0x0B :: rest) = .ok (.dcxB, rest))
theorem inrC : Statement (.inrC) :=
  fun rest => (rfl : decode (0x0C :: rest) = .ok (.inrC, rest))
theorem dcrC : Statement (.dcrC) :=
  fun rest => (rfl : decode (0x0D :: rest) = .ok (.dcrC, rest))
theorem mviC (b2 : Byte) : Statement (.mviC b2) :=
  fun rest => (rfl : decode (0x0E :: b2 :: rest) = .ok (.mviC b2, rest))
theorem rrc : Statement (.rrc) :=
  fun rest => (rfl : decode (0x0F :: rest) = .ok (.rrc, rest))
theorem nop10 : Statement (.nop10) :=
  fun rest => (rfl : decode (0x10 :: rest) = .ok (.nop10, rest))
theorem lxiD (b2 b3 : Byte) : Statement (.lxiD b2 b3) :=
  fun rest => (rfl : decode (0x11 :: b2 :: b3 :: rest) = .ok (.lxiD b2 b3, rest))
theorem staxD : Statement (.staxD) :=
  fun rest => (rfl : decode (0x12 :: rest) = .ok (.staxD, rest))
theorem inxD : Statement (.inxD) :=
  fun rest => (rfl : decode (0x13 :: rest) = .ok (.inxD, rest))
theorem inrD : Statement (.inrD) :=
  fun rest => (rfl : decode (0x14 :: rest) = .ok (.inrD, rest))
theorem dcrD : Statement (.dcrD) :=
  fun rest => (rfl : decode (0x15 :: rest) = .ok (.dcrD, rest))
theorem mviD (b2 : Byte) : Statement (.mviD b2) :=
  fun rest => (rfl : decode (0x16 :: b2 :: rest) = .ok (.mviD b2, rest))
theorem ral : Statement (.ral) :=
  fun rest => (rfl : decode (0x17 :: rest) = .ok (.ral, rest))
theorem nop18 : Statement (.nop18) :=
  fun rest => (rfl : decode (0x18 :: rest) = .ok (.nop18, rest))
theorem dadD : Statement (.dadD) :=
  fun rest => (rfl : decode (0x19 :: rest) = .ok (.dadD, rest))
theorem ldaxD : Statement (.ldaxD) :=
  fun rest => (rfl : decode (0x1A :: rest) = .ok (.ldaxD, rest))
theorem dcxD : Statement (.dcxD) :=
  fun rest => (rfl : decode (0x1B :: rest) = .ok (.dcxD, rest))
theorem inrE : Statement (.inrE) :=
  fun rest => (rfl : decode (0x1C :: rest) = .ok (.inrE, rest))
theorem dcrE : Statement (.dcrE) :=
  fun rest => (rfl : decode (0x1D :: rest) = .ok (.dcrE, rest))
theorem mviE (b2 : Byte) : Statement (.mviE b2) :=
  fun rest => (rfl : decode (0x1E :: b2 :: rest) = .ok (.mviE b2, rest))
theorem rar : Statement (.rar) :=
  fun rest => (rfl : decode (0x1F :: rest) = .ok (.rar, rest))
theorem nop20 : Statement (.nop20) :=
  fun rest => (rfl : decode (0x20 :: rest) = .ok (.nop20, rest))
theorem lxiH (b2 b3 : Byte) : Statement (.lxiH b2 b3) :=
  fun rest => (rfl : decode (0x21 :: b2 :: b3 :: rest) = .ok (.lxiH b2 b3, rest))
theorem shld (b2 b3 : Byte) : Statement (.shld b2 b3) :=
  fun rest => (rfl : decode (0x22 :: b2 :: b3 :: rest) = .ok (.shld b2 b3, rest))
theorem inxH : Statement (.inxH) :=
  fun rest => (rfl : decode (0x23 :: rest) = .ok (.inxH, rest))
theorem inrH : Statement (.inrH) :=
  fun rest => (rfl : decode (0x24 :: rest) = .ok (.inrH, rest))
theorem dcrH : Statement (.dcrH) :=
  fun rest => (rfl : decode (0x25 :: rest) = .ok (.dcrH, rest))
theorem mviH (b2 : Byte) : Statement (.mviH b2) :=
  fun rest => (rfl : decode (0x26 :: b2 :: rest) = .ok (.mviH b2, rest))
theorem daa : Statement (.daa) :=
  fun rest => (rfl : decode (0x27 :: rest) = .ok (.daa, rest))
theorem nop28 : Statement (.nop28) :=
  fun rest => (rfl : decode (0x28 :: rest) = .ok (.nop28, rest))
theorem dadH : Statement (.dadH) :=
  fun rest => (rfl : decode (0x29 :: rest) = .ok (.dadH, rest))
theorem lhld (b2 b3 : Byte) : Statement (.lhld b2 b3) :=
  fun rest => (rfl : decode (0x2A :: b2 :: b3 :: rest) = .ok (.lhld b2 b3, rest))
theorem dcxH : Statement (.dcxH) :=
  fun rest => (rfl : decode (0x2B :: rest) = .ok (.dcxH, rest))
theorem inrL : Statement (.inrL) :=
  fun rest => (rfl : decode (0x2C :: rest) = .ok (.inrL, rest))
theorem dcrL : Statement (.dcrL) :=
  fun rest => (rfl : decode (0x2D :: rest) = .ok (.dcrL, rest))
theorem mviL (b2 : Byte) : Statement (.mviL b2) :=
  fun rest => (rfl : decode (0x2E :: b2 :: rest) = .ok (.mviL b2, rest))
theorem cma : Statement (.cma) :=
  fun rest => (rfl : decode (0x2F :: rest) = .ok (.cma, rest))
theorem nop30 : Statement (.nop30) :=
  fun rest => (rfl : decode (0x30 :: rest) = .ok (.nop30, rest))
theorem lxiSP (b2 b3 : Byte) : Statement (.lxiSP b2 b3) :=
  fun rest => (rfl : decode (0x31 :: b2 :: b3 :: rest) = .ok (.lxiSP b2 b3, rest))
theorem sta (b2 b3 : Byte) : Statement (.sta b2 b3) :=
  fun rest => (rfl : decode (0x32 :: b2 :: b3 :: rest) = .ok (.sta b2 b3, rest))
theorem inxSP : Statement (.inxSP) :=
  fun rest => (rfl : decode (0x33 :: rest) = .ok (.inxSP, rest))
theorem inrM : Statement (.inrM) :=
  fun rest => (rfl : decode (0x34 :: rest) = .ok (.inrM, rest))
theorem dcrM : Statement (.dcrM) :=
  fun rest => (rfl : decode (0x35 :: rest) = .ok (.dcrM, rest))
theorem mviM (b2 : Byte) : Statement (.mviM b2) :=
  fun rest => (rfl : decode (0x36 :: b2 :: rest) = .ok (.mviM b2, rest))
theorem stc : Statement (.stc) :=
  fun rest => (rfl : decode (0x37 :: rest) = .ok (.stc, rest))
theorem nop38 : Statement (.nop38) :=
  fun rest => (rfl : decode (0x38 :: rest) = .ok (.nop38, rest))
theorem dadSP : Statement (.dadSP) :=
  fun rest => (rfl : decode (0x39 :: rest) = .ok (.dadSP, rest))
theorem lda (b2 b3 : Byte) : Statement (.lda b2 b3) :=
  fun rest => (rfl : decode (0x3A :: b2 :: b3 :: rest) = .ok (.lda b2 b3, rest))
theorem dcxSP : Statement (.dcxSP) :=
  fun rest => (rfl : decode (0x3B :: rest) = .ok (.dcxSP, rest))
theorem inrA : Statement (.inrA) :=
  fun rest => (rfl : decode (0x3C :: rest) = .ok (.inrA, rest))
theorem dcrA : Statement (.dcrA) :=
  fun rest => (rfl : decode (0x3D :: rest) = .ok (.dcrA, rest))
theorem mviA (b2 : Byte) : Statement (.mviA b2) :=
  fun rest => (rfl : decode (0x3E :: b2 :: rest) = .ok (.mviA b2, rest))
theorem cmc : Statement (.cmc) :=
  fun rest => (rfl : decode (0x3F :: rest) = .ok (.cmc, rest))
theorem movBB : Statement (.movBB) :=
  fun rest => (rfl : decode (0x40 :: rest) = .ok (.movBB, rest))
theorem movBC : Statement (.movBC) :=
  fun rest => (rfl : decode (0x41 :: rest) = .ok (.movBC, rest))
theorem movBD : Statement (.movBD) :=
  fun rest => (rfl : decode (0x42 :: rest) = .ok (.movBD, rest))
theorem movBE : Statement (.movBE) :=
  fun rest => (rfl : decode (0x43 :: rest) = .ok (.movBE, rest))
theorem movBH : Statement (.movBH) :=
  fun rest => (rfl : decode (0x44 :: rest) = .ok (.movBH, rest))
theorem movBL : Statement (.movBL) :=
  fun rest => (rfl : decode (0x45 :: rest) = .ok (.movBL, rest))
theorem movBM : Statement (.movBM) :=
  fun rest => (rfl : decode (0x46 :: rest) = .ok (.movBM, rest))
theorem movBA : Statement (.movBA) :=
  fun rest => (rfl : decode (0x47 :: rest) = .ok (.movBA, rest))
theorem movCB : Statement (.movCB) :=
  fun rest => (rfl : decode (0x48 :: rest) = .ok (.movCB, rest))
theorem movCC : Statement (.movCC) :=
  fun rest => (rfl : decode (0x49 :: rest) = .ok (.movCC, rest))
theorem movCD : Statement (.movCD) :=
  fun rest => (rfl : decode (0x4A :: rest) = .ok (.movCD, rest))
theorem movCE : Statement (.movCE) :=
  fun rest => (rfl : decode (0x4B :: rest) = .ok (.movCE, rest))
theorem movCH : Statement (.movCH) :=
  fun rest => (rfl : decode (0x4C :: rest) = .ok (.movCH, rest))
theorem movCL : Statement (.movCL) :=
  fun rest => (rfl : decode (0x4D :: rest) = .ok (.movCL, rest))
theorem movCM : Statement (.movCM) :=
  fun rest => (rfl : decode (0x4E :: rest) = .ok (.movCM, rest))
theorem movCA : Statement (.movCA) :=
  fun rest => (rfl : decode (0x4F :: rest) = .ok (.movCA, rest))
theorem movDB : Statement (.movDB) :=
  fun rest => (rfl : decode (0x50 :: rest) = .ok (.movDB, rest))
theorem movDC : Statement (.movDC) :=
  fun rest => (rfl : decode (0x51 :: rest) = .ok (.movDC, rest))
theorem movDD : Statement (.movDD) :=
  fun rest => (rfl : decode (0x52 :: rest) = .ok (.movDD, rest))
theorem movDE : Statement (.movDE) :=
  fun rest => (rfl : decode (0x53 :: rest) = .ok (.movDE, rest))
theorem movDH : Statement (.movDH) :=
  fun rest => (rfl : decode (0x54 :: rest) = .ok (.movDH, rest))
theorem movDL : Statement (.movDL) :=
  fun rest => (rfl : decode (0x55 :: rest) = .ok (.movDL, rest))
theorem movDM : Statement (.movDM) :=
  fun rest => (rfl : decode (0x56 :: rest) = .ok (.movDM, rest))
theorem movDA : Statement (.movDA) :=
  fun rest => (rfl : decode (0x57 :: rest) = .ok (.movDA, rest))
theorem movEB : Statement (.movEB) :=
  fun rest => (rfl : decode (0x58 :: rest) = .ok (.movEB, rest))
theorem movEC : Statement (.movEC) :=
  fun rest => (rfl : decode (0x59 :: rest) = .ok (.movEC, rest))
theorem movED : Statement (.movED) :=
  fun rest => (rfl : decode (0x5A :: rest) = .ok (.movED, rest))
theorem movEE : Statement (.movEE) :=
  fun rest => (rfl : decode (0x5B :: rest) = .ok (.movEE, rest))
theorem movEH : Statement (.movEH) :=
  fun rest => (rfl : decode (0x5C :: rest) = .ok (.movEH, rest))
theorem movEL : Statement (.movEL) :=
  fun rest => (rfl : decode (0x5D :: rest) = .ok (.movEL, rest))
theorem movEM : Statement (.movEM) :=
  fun rest => (rfl : decode (0x5E :: rest) = .ok (.movEM, rest))
theorem movEA : Statement (.movEA) :=
  fun rest => (rfl : decode (0x5F :: rest) = .ok (.movEA, rest))
theorem movHB : Statement (.movHB) :=
  fun rest => (rfl : decode (0x60 :: rest) = .ok (.movHB, rest))
theorem movHC : Statement (.movHC) :=
  fun rest => (rfl : decode (0x61 :: rest) = .ok (.movHC, rest))
theorem movHD : Statement (.movHD) :=
  fun rest => (rfl : decode (0x62 :: rest) = .ok (.movHD, rest))
theorem movHE : Statement (.movHE) :=
  fun rest => (rfl : decode (0x63 :: rest) = .ok (.movHE, rest))
theorem movHH : Statement (.movHH) :=
  fun rest => (rfl : decode (0x64 :: rest) = .ok (.movHH, rest))
theorem movHL : Statement (.movHL) :=
  fun rest => (rfl : decode (0x65 :: rest) = .ok (.movHL, rest))
theorem movHM : Statement (.movHM) :=
  fun rest => (rfl : decode (0x66 :: rest) = .ok (.movHM, rest))
theorem movHA : Statement (.movHA) :=
  fun rest => (rfl : decode (0x67 :: rest) = .ok (.movHA, rest))
theorem movLB : Statement (.movLB) :=
  fun rest => (rfl : decode (0x68 :: rest) = .ok (.movLB, rest))
theorem movLC : Statement (.movLC) :=
  fun rest => (rfl : decode (0x69 :: rest) = .ok (.movLC, rest))
theorem movLD : Statement (.movLD) :=
  fun rest => (rfl : decode (0x6A :: rest) = .ok (.movLD, rest))
theorem movLE : Statement (.movLE) :=
  fun rest => (rfl : decode (0x6B :: rest) = .ok (.movLE, rest))
theorem movLH : Statement (.movLH) :=
  fun rest => (rfl : decode (0x6C :: rest) = .ok (.movLH, rest))
theorem movLL : Statement (.movLL) :=
  fun rest => (rfl : decode (0x6D :: rest) = .ok (.movLL, rest))
theorem movLM : Statement (.movLM) :=
  fun rest => (rfl : decode (0x6E :: rest) = .ok (.movLM, rest))
theorem movLA : Statement (.movLA) :=
  fun rest => (rfl : decode (0x6F :: rest) = .ok (.movLA, rest))
theorem movMB : Statement (.movMB) :=
  fun rest => (rfl : decode (0x70 :: rest) = .ok (.movMB, rest))
theorem movMC : Statement (.movMC) :=
  fun rest => (rfl : decode (0x71 :: rest) = .ok (.movMC, rest))
theorem movMD : Statement (.movMD) :=
  fun rest => (rfl : decode (0x72 :: rest) = .ok (.movMD, rest))
theorem movME : Statement (.movME) :=
  fun rest => (rfl : decode (0x73 :: rest) = .ok (.movME, rest))
theorem movMH : Statement (.movMH) :=
  fun rest => (rfl : decode (0x74 :: rest) = .ok (.movMH, rest))
theorem movML : Statement (.movML) :=
  fun rest => (rfl : decode (0x75 :: rest) = .ok (.movML, rest))
theorem hlt : Statement (.hlt) :=
  fun rest => (rfl : decode (0x76 :: rest) = .ok (.hlt, rest))
theorem movMA : Statement (.movMA) :=
  fun rest => (rfl : decode (0x77 :: rest) = .ok (.movMA, rest))
theorem movAB : Statement (.movAB) :=
  fun rest => (rfl : decode (0x78 :: rest) = .ok (.movAB, rest))
theorem movAC : Statement (.movAC) :=
  fun rest => (rfl : decode (0x79 :: rest) = .ok (.movAC, rest))
theorem movAD : Statement (.movAD) :=
  fun rest => (rfl : decode (0x7A :: rest) = .ok (.movAD, rest))
theorem movAE : Statement (.movAE) :=
  fun rest => (rfl : decode (0x7B :: rest) = .ok (.movAE, rest))
theorem movAH : Statement (.movAH) :=
  fun rest => (rfl : decode (0x7C :: rest) = .ok (.movAH, rest))
theorem movAL : Statement (.movAL) :=
  fun rest => (rfl : decode (0x7D :: rest) = .ok (.movAL, rest))
theorem movAM : Statement (.movAM) :=
  fun rest => (rfl : decode (0x7E :: rest) = .ok (.movAM, rest))
theorem movAA : Statement (.movAA) :=
  fun rest => (rfl : decode (0x7F :: rest) = .ok (.movAA, rest))
theorem addB : Statement (.addB) :=
  fun rest => (rfl : decode (0x80 :: rest) = .ok (.addB, rest))
theorem addC : Statement (.addC) :=
  fun rest => (rfl : decode (0x81 :: rest) = .ok (.addC, rest))
theorem addD : Statement (.addD) :=
  fun rest => (rfl : decode (0x82 :: rest) = .ok (.addD, rest))
theorem addE : Statement (.addE) :=
  fun rest => (rfl : decode (0x83 :: rest) = .ok (.addE, rest))
theorem addH : Statement (.addH) :=
  fun rest => (rfl : decode (0x84 :: rest) = .ok (.addH, rest))
theorem addL : Statement (.addL) :=
  fun rest => (rfl : decode (0x85 :: rest) = .ok (.addL, rest))
theorem addM : Statement (.addM) :=
  fun rest => (rfl : decode (0x86 :: rest) = .ok (.addM, rest))
theorem addA : Statement (.addA) :=
  fun rest => (rfl : decode (0x87 :: rest) = .ok (.addA, rest))
theorem adcB : Statement (.adcB) :=
  fun rest => (rfl : decode (0x88 :: rest) = .ok (.adcB, rest))
theorem adcC : Statement (.adcC) :=
  fun rest => (rfl : decode (0x89 :: rest) = .ok (.adcC, rest))
theorem adcD : Statement (.adcD) :=
  fun rest => (rfl : decode (0x8A :: rest) = .ok (.adcD, rest))
theorem adcE : Statement (.adcE) :=
  fun rest => (rfl : decode (0x8B :: rest) = .ok (.adcE, rest))
theorem adcH : Statement (.adcH) :=
  fun rest => (rfl : decode (0x8C :: rest) = .ok (.adcH, rest))
theorem adcL : Statement (.adcL) :=
  fun rest => (rfl : decode (0x8D :: rest) = .ok (.adcL, rest))
theorem adcM : Statement (.adcM) :=
  fun rest => (rfl : decode (0x8E :: rest) = .ok (.adcM, rest))
theorem adcA : Statement (.adcA) :=
  fun rest => (rfl : decode (0x8F :: rest) = .ok (.adcA, rest))
theorem subB : Statement (.subB) :=
  fun rest => (rfl : decode (0x90 :: rest) = .ok (.subB, rest))
theorem subC : Statement (.subC) :=
  fun rest => (rfl : decode (0x91 :: rest) = .ok (.subC, rest))
theorem subD : Statement (.subD) :=
  fun rest => (rfl : decode (0x92 :: rest) = .ok (.subD, rest))
theorem subE : Statement (.subE) :=
  fun rest => (rfl : decode (0x93 :: rest) = .ok (.subE, rest))
theorem subH : Statement (.subH) :=
  fun rest => (rfl : decode (0x94 :: rest) = .ok (.subH, rest))
theorem subL : Statement (.subL) :=
  fun rest => (rfl : decode (0x95 :: rest) = .ok (.subL, rest))
theorem subM : Statement (.subM) :=
  fun rest => (rfl : decode (0x96 :: rest) = .ok (.subM, rest))
theorem subA : Statement (.subA) :=
  fun rest => (rfl : decode (0x97 :: rest) = .ok (.subA, rest))
theorem sbbB : Statement (.sbbB) :=
  fun rest => (rfl : decode (0x98 :: rest) = .ok (.sbbB, rest))
theorem sbbC : Statement (.sbbC) :=
  fun rest => (rfl : decode (0x99 :: rest) = .ok (.sbbC, rest))
theorem sbbD : Statement (.sbbD) :=
  fun rest => (rfl : decode (0x9A :: rest) = .ok (.sbbD, rest))
theorem sbbE : Statement (.sbbE) :=
  fun rest => (rfl : decode (0x9B :: rest) = .ok (.sbbE, rest))
theorem sbbH : Statement (.sbbH) :=
  fun rest => (rfl : decode (0x9C :: rest) = .ok (.sbbH, rest))
theorem sbbL : Statement (.sbbL) :=
  fun rest => (rfl : decode (0x9D :: rest) = .ok (.sbbL, rest))
theorem sbbM : Statement (.sbbM) :=
  fun rest => (rfl : decode (0x9E :: rest) = .ok (.sbbM, rest))
theorem sbbA : Statement (.sbbA) :=
  fun rest => (rfl : decode (0x9F :: rest) = .ok (.sbbA, rest))
theorem anaB : Statement (.anaB) :=
  fun rest => (rfl : decode (0xA0 :: rest) = .ok (.anaB, rest))
theorem anaC : Statement (.anaC) :=
  fun rest => (rfl : decode (0xA1 :: rest) = .ok (.anaC, rest))
theorem anaD : Statement (.anaD) :=
  fun rest => (rfl : decode (0xA2 :: rest) = .ok (.anaD, rest))
theorem anaE : Statement (.anaE) :=
  fun rest => (rfl : decode (0xA3 :: rest) = .ok (.anaE, rest))
theorem anaH : Statement (.anaH) :=
  fun rest => (rfl : decode (0xA4 :: rest) = .ok (.anaH, rest))
theorem anaL : Statement (.anaL) :=
  fun rest => (rfl : decode (0xA5 :: rest) = .ok (.anaL, rest))
theorem anaM : Statement (.anaM) :=
  fun rest => (rfl : decode (0xA6 :: rest) = .ok (.anaM, rest))
theorem anaA : Statement (.anaA) :=
  fun rest => (rfl : decode (0xA7 :: rest) = .ok (.anaA, rest))
theorem xraB : Statement (.xraB) :=
  fun rest => (rfl : decode (0xA8 :: rest) = .ok (.xraB, rest))
theorem xraC : Statement (.xraC) :=
  fun rest => (rfl : decode (0xA9 :: rest) = .ok (.xraC, rest))
theorem xraD : Statement (.xraD) :=
  fun rest => (rfl : decode (0xAA :: rest) = .ok (.xraD, rest))
theorem xraE : Statement (.xraE) :=
  fun rest => (rfl : decode (0xAB :: rest) = .ok (.xraE, rest))
theorem xraH : Statement (.xraH) :=
  fun rest => (rfl : decode (0xAC :: rest) = .ok (.xraH, rest))
theorem xraL : Statement (.xraL) :=
  fun rest => (rfl : decode (0xAD :: rest) = .ok (.xraL, rest))
theorem xraM : Statement (.xraM) :=
  fun rest => (rfl : decode (0xAE :: rest) = .ok (.xraM, rest))
theorem xraA : Statement (.xraA) :=
  fun rest => (rfl : decode (0xAF :: rest) = .ok (.xraA, rest))
theorem oraB : Statement (.oraB) :=
  fun rest => (rfl : decode (0xB0 :: rest) = .ok (.oraB, rest))
theorem oraC : Statement (.oraC) :=
  fun rest => (rfl : decode (0xB1 :: rest) = .ok (.oraC, rest))
theorem oraD : Statement (.oraD) :=
  fun rest => (rfl : decode (0xB2 :: rest) = .ok (.oraD, rest))
theorem oraE : Statement (.oraE) :=
  fun rest => (rfl : decode (0xB3 :: rest) = .ok (.oraE, rest))
theorem oraH : Statement (.oraH) :=
  fun rest => (rfl : decode (0xB4 :: rest) = .ok (.oraH, rest))
theorem oraL : Statement (.oraL) :=
  fun rest => (rfl : decode (0xB5 :: rest) = .ok (.oraL, rest))
theorem oraM : Statement (.oraM) :=
  fun rest => (rfl : decode (0xB6 :: rest) = .ok (.oraM, rest))
theorem oraA : Statement (.oraA) :=
  fun rest => (rfl : decode (0xB7 :: rest) = .ok (.oraA, rest))
theorem cmpB : Statement (.cmpB) :=
  fun rest => (rfl : decode (0xB8 :: rest) = .ok (.cmpB, rest))
theorem cmpC : Statement (.cmpC) :=
  fun rest => (rfl : decode (0xB9 :: rest) = .ok (.cmpC, rest))
theorem cmpD : Statement (.cmpD) :=
  fun rest => (rfl : decode (0xBA :: rest) = .ok (.cmpD, rest))
theorem cmpE : Statement (.cmpE) :=
  fun rest => (rfl : decode (0xBB :: rest) = .ok (.cmpE, rest))
theorem cmpH : Statement (.cmpH) :=
  fun rest => (rfl : decode (0xBC :: rest) = .ok (.cmpH, rest))
theorem cmpL : Statement (.cmpL) :=
  fun rest => (rfl : decode (0xBD :: rest) = .ok (.cmpL, rest))
theorem cmpM : Statement (.cmpM) :=
  fun rest => (rfl : decode (0xBE :: rest) = .ok (.cmpM, rest))
theorem cmpA : Statement (.cmpA) :=
  fun rest => (rfl : decode (0xBF :: rest) = .ok (.cmpA, rest))
theorem rnz : Statement (.rnz) :=
  fun rest => (rfl : decode (0xC0 :: rest) = .ok (.rnz, rest))
theorem popB : Statement (.popB) :=
  fun rest => (rfl : decode (0xC1 :: rest) = .ok (.popB, rest))
theorem jnz (b2 b3 : Byte) : Statement (.jnz b2 b3) :=
  fun rest => (rfl : decode (0xC2 :: b2 :: b3 :: rest) = .ok (.jnz b2 b3, rest))
theorem jmpC3 (b2 b3 : Byte) : Statement (.jmpC3 b2 b3) :=
  fun rest => (rfl : decode (0xC3 :: b2 :: b3 :: rest) = .ok (.jmpC3 b2 b3, rest))
theorem cnz (b2 b3 : Byte) : Statement (.cnz b2 b3) :=
  fun rest => (rfl : decode (0xC4 :: b2 :: b3 :: rest) = .ok (.cnz b2 b3, rest))
theorem pushB : Statement (.pushB) :=
  fun rest => (rfl : decode (0xC5 :: rest) = .ok (.pushB, rest))
theorem adi (b2 : Byte) : Statement (.adi b2) :=
  fun rest => (rfl : decode (0xC6 :: b2 :: rest) = .ok (.adi b2, rest))
theorem rst0 : Statement (.rst0) :=
  fun rest => (rfl : decode (0xC7 :: rest) = .ok (.rst0, rest))
theorem rz : Statement (.rz) :=
  fun rest => (rfl : decode (0xC8 :: rest) = .ok (.rz, rest))
theorem retC9 : Statement (.retC9) :=
  fun rest => (rfl : decode (0xC9 :: rest) = .ok (.retC9, rest))
theorem jz (b2 b3 : Byte) : Statement (.jz b2 b3) :=
  fun rest => (rfl : decode (0xCA :: b2 :: b3 :: rest) = .ok (.jz b2 b3, rest))
theorem jmpCB (b2 b3 : Byte) : Statement (.jmpCB b2 b3) :=
  fun rest => (rfl : decode (0xCB :: b2 :: b3 :: rest) = .ok (.jmpCB b2 b3, rest))
theorem cz (b2 b3 : Byte) : Statement (.cz b2 b3) :=
  fun rest => (rfl : decode (0xCC :: b2 :: b3 :: rest) = .ok (.cz b2 b3, rest))
theorem callCD (b2 b3 : Byte) : Statement (.callCD b2 b3) :=
  fun rest => (rfl : decode (0xCD :: b2 :: b3 :: rest) = .ok (.callCD b2 b3, rest))
theorem aci (b2 : Byte) : Statement (.aci b2) :=
  fun rest => (rfl : decode (0xCE :: b2 :: rest) = .ok (.aci b2, rest))
theorem rst1 : Statement (.rst1) :=
  fun rest => (rfl : decode (0xCF :: rest) = .ok (.rst1, rest))
theorem rnc : Statement (.rnc) :=
  fun rest => (rfl : decode (0xD0 :: rest) = .ok (.rnc, rest))
theorem popD : Statement (.popD) :=
  fun rest => (rfl : decode (0xD1 :: rest) = .ok (.popD, rest))
theorem jnc (b2 b3 : Byte) : Statement (.jnc b2 b3) :=
  fun rest => (rfl : decode (0xD2 :: b2 :: b3 :: rest) = .ok (.jnc b2 b3, rest))
theorem outPort (b2 : Byte) : Statement (.outPort b2) :=
  fun rest => (rfl : decode (0xD3 :: b2 :: rest) = .ok (.outPort b2, rest))
theorem cnc (b2 b3 : Byte) : Statement (.cnc b2 b3) :=
  fun rest => (rfl : decode (0xD4 :: b2 :: b3 :: rest) = .ok (.cnc b2 b3, rest))
theorem pushD : Statement (.pushD) :=
  fun rest => (rfl : decode (0xD5 :: rest) = .ok (.pushD, rest))
theorem sui (b2 : Byte) : Statement (.sui b2) :=
  fun rest => (rfl : decode (0xD6 :: b2 :: rest) = .ok (.sui b2, rest))
theorem rst2 : Statement (.rst2) :=
  fun rest => (rfl : decode (0xD7 :: rest) = .ok (.rst2, rest))
theorem rc : Statement (.rc) :=
  fun rest => (rfl : decode (0xD8 :: rest) = .ok (.rc, rest))
theorem retD9 : Statement (.retD9) :=
  fun rest => (rfl : decode (0xD9 :: rest) = .ok (.retD9, rest))
theorem jc (b2 b3 : Byte) : Statement (.jc b2 b3) :=
  fun rest => (rfl : decode (0xDA :: b2 :: b3 :: rest) = .ok (.jc b2 b3, rest))
theorem inPort (b2 : Byte) : Statement (.inPort b2) :=
  fun rest => (rfl : decode (0xDB :: b2 :: rest) = .ok (.inPort b2, rest))
theorem cc (b2 b3 : Byte) : Statement (.cc b2 b3) :=
  fun rest => (rfl : decode (0xDC :: b2 :: b3 :: rest) = .ok (.cc b2 b3, rest))
theorem callDD (b2 b3 : Byte) : Statement (.callDD b2 b3) :=
  fun rest => (rfl : decode (0xDD :: b2 :: b3 :: rest) = .ok (.callDD b2 b3, rest))
theorem sbi (b2 : Byte) : Statement (.sbi b2) :=
  fun rest => (rfl : decode (0xDE :: b2 :: rest) = .ok (.sbi b2, rest))
theorem rst3 : Statement (.rst3) :=
  fun rest => (rfl : decode (0xDF :: rest) = .ok (.rst3, rest))
theorem rpo : Statement (.rpo) :=
  fun rest => (rfl : decode (0xE0 :: rest) = .ok (.rpo, rest))
theorem popH : Statement (.popH) :=
  fun rest => (rfl : decode (0xE1 :: rest) = .ok (.popH, rest))
theorem jpo (b2 b3 : Byte) : Statement (.jpo b2 b3) :=
  fun rest => (rfl : decode (0xE2 :: b2 :: b3 :: rest) = .ok (.jpo b2 b3, rest))
theorem xthl : Statement (.xthl) :=
  fun rest => (rfl : decode (0xE3 :: rest) = .ok (.xthl, rest))
theorem cpo (b2 b3 : Byte) : Statement (.cpo b2 b3) :=
  fun rest => (rfl : decode (0xE4 :: b2 :: b3 :: rest) = .ok (.cpo b2 b3, rest))
theorem pushH : Statement (.pushH) :=
  fun rest => (rfl : decode (0xE5 :: rest) = .ok (.pushH, rest))
theorem ani (b2 : Byte) : Statement (.ani b2) :=
  fun rest => (rfl : decode (0xE6 :: b2 :: rest) = .ok (.ani b2, rest))
theorem rst4 : Statement (.rst4) :=
  fun rest => (rfl : decode (0xE7 :: rest) = .ok (.rst4, rest))
theorem rpe : Statement (.rpe) :=
  fun rest => (rfl : decode (0xE8 :: rest) = .ok (.rpe, rest))
theorem pchl : Statement (.pchl) :=
  fun rest => (rfl : decode (0xE9 :: rest) = .ok (.pchl, rest))
theorem jpe (b2 b3 : Byte) : Statement (.jpe b2 b3) :=
  fun rest => (rfl : decode (0xEA :: b2 :: b3 :: rest) = .ok (.jpe b2 b3, rest))
theorem xchg : Statement (.xchg) :=
  fun rest => (rfl : decode (0xEB :: rest) = .ok (.xchg, rest))
theorem cpe (b2 b3 : Byte) : Statement (.cpe b2 b3) :=
  fun rest => (rfl : decode (0xEC :: b2 :: b3 :: rest) = .ok (.cpe b2 b3, rest))
theorem callED (b2 b3 : Byte) : Statement (.callED b2 b3) :=
  fun rest => (rfl : decode (0xED :: b2 :: b3 :: rest) = .ok (.callED b2 b3, rest))
theorem xri (b2 : Byte) : Statement (.xri b2) :=
  fun rest => (rfl : decode (0xEE :: b2 :: rest) = .ok (.xri b2, rest))
theorem rst5 : Statement (.rst5) :=
  fun rest => (rfl : decode (0xEF :: rest) = .ok (.rst5, rest))
theorem rp : Statement (.rp) :=
  fun rest => (rfl : decode (0xF0 :: rest) = .ok (.rp, rest))
theorem popPSW : Statement (.popPSW) :=
  fun rest => (rfl : decode (0xF1 :: rest) = .ok (.popPSW, rest))
theorem jp (b2 b3 : Byte) : Statement (.jp b2 b3) :=
  fun rest => (rfl : decode (0xF2 :: b2 :: b3 :: rest) = .ok (.jp b2 b3, rest))
theorem di : Statement (.di) :=
  fun rest => (rfl : decode (0xF3 :: rest) = .ok (.di, rest))
theorem cp (b2 b3 : Byte) : Statement (.cp b2 b3) :=
  fun rest => (rfl : decode (0xF4 :: b2 :: b3 :: rest) = .ok (.cp b2 b3, rest))
theorem pushPSW : Statement (.pushPSW) :=
  fun rest => (rfl : decode (0xF5 :: rest) = .ok (.pushPSW, rest))
theorem ori (b2 : Byte) : Statement (.ori b2) :=
  fun rest => (rfl : decode (0xF6 :: b2 :: rest) = .ok (.ori b2, rest))
theorem rst6 : Statement (.rst6) :=
  fun rest => (rfl : decode (0xF7 :: rest) = .ok (.rst6, rest))
theorem rm : Statement (.rm) :=
  fun rest => (rfl : decode (0xF8 :: rest) = .ok (.rm, rest))
theorem sphl : Statement (.sphl) :=
  fun rest => (rfl : decode (0xF9 :: rest) = .ok (.sphl, rest))
theorem jm (b2 b3 : Byte) : Statement (.jm b2 b3) :=
  fun rest => (rfl : decode (0xFA :: b2 :: b3 :: rest) = .ok (.jm b2 b3, rest))
theorem ei : Statement (.ei) :=
  fun rest => (rfl : decode (0xFB :: rest) = .ok (.ei, rest))
theorem cm (b2 b3 : Byte) : Statement (.cm b2 b3) :=
  fun rest => (rfl : decode (0xFC :: b2 :: b3 :: rest) = .ok (.cm b2 b3, rest))
theorem callFD (b2 b3 : Byte) : Statement (.callFD b2 b3) :=
  fun rest => (rfl : decode (0xFD :: b2 :: b3 :: rest) = .ok (.callFD b2 b3, rest))
theorem cpi (b2 : Byte) : Statement (.cpi b2) :=
  fun rest => (rfl : decode (0xFE :: b2 :: rest) = .ok (.cpi b2, rest))
theorem rst7 : Statement (.rst7) :=
  fun rest => (rfl : decode (0xFF :: rest) = .ok (.rst7, rest))

end Sys2Proof.Laws.RoundTrip
end

