-- ==== Sys2Proof/Laws/Rom.lean ====
section
/-!
SUPPORT. The contents of the ROMs: every opcode has a real record, of the length the decoder's row takes, whose
template its operand bytes fill.
-/

namespace Sys2Proof.Machine

/-- No opcode is mapped to the sentinel (30_encoding.md R81). -/
theorem Rom.lookup_real (op : Byte) : ∃ c, Rom.contents.lookup op = .real c := by
  have h : ∀ op : Byte, Rom.contents.lookup op ≠ .unk := by decide
  cases hd : Rom.contents.lookup op with
  | real c => exact ⟨c, rfl⟩
  | unk => exact absurd hd (h op)

/-- Every opcode has a record (10_state.md R21, R22). -/
theorem Rom.record_exists (op : Byte) : ∃ e, Rom.contents.record (Rom.contents.lookup op) = some e := by
  have h : ∀ op : Byte, (Rom.contents.record (Rom.contents.lookup op)).isSome = true := by decide
  exact Option.isSome_iff_exists.mp (h op)

/-- The record's length is the opcode and the operand bytes the decoder's row takes (30_encoding.md R70). -/
theorem Rom.record_length {op : Byte} {e : Descriptor}
    (he : Rom.contents.record (Rom.contents.lookup op) = some e) :
    e.length.bytes = (formAt op).operandCount + 1 := by
  have h : ∀ op : Byte, (Rom.contents.record (Rom.contents.lookup op)).map (fun e => e.length.bytes) =
      some ((formAt op).operandCount + 1) := by decide
  have := h op
  rw [he] at this
  simpa using this

/-- The record's operand kind goes with its length, and its template holds only the placeholders of that kind
(10_state.md R23 item 1, 30_encoding.md R88). -/
theorem Rom.record_kind {op : Byte} {e : Descriptor}
    (he : Rom.contents.record (Rom.contents.lookup op) = some e) :
    e.length = e.operand.length ∧ ∀ p ∈ e.operation, pieceAllowed e.operand p = true := by
  have h : ∀ op : Byte, (Rom.contents.record (Rom.contents.lookup op)).any (fun e =>
      e.length == e.operand.length && e.operation.all (pieceAllowed e.operand)) = true := by decide
  have := h op
  rw [he] at this
  simpa using this

/-- A template whose placeholders fit its operand kind is filled by as many bytes as that kind has. -/
theorem subst_some {k : OperandKind} {t : Template} (hp : ∀ p ∈ t, pieceAllowed k p = true) (op : Byte)
    {bs : List Byte} (hb : bs.length + 1 = k.length.bytes) : ∃ text, subst op bs t = some text := by
  induction t with
  | nil => exact ⟨_, rfl⟩
  | cons p t ih =>
    obtain ⟨u, hu⟩ := ih fun x hx => hp x (List.mem_cons_of_mem p hx)
    have hp := hp p (by simp)
    suffices h : ∃ v, p.text op bs = some v by
      obtain ⟨v, hv⟩ := h
      exact ⟨_, subst_cons op bs p t hv hu⟩
    rcases bs with - | ⟨b2, - | ⟨b3, - | ⟨b4, bs⟩⟩⟩ <;> cases k <;>
      simp [OperandKind.length, InstrLength.bytes] at hb <;>
      cases p <;> simp_all [pieceAllowed, Piece.text]

end Sys2Proof.Machine
end

