-- ==== Sys2Proof/Tests/Slice0.lean ====
section
/-!
SUPPORT. The model's own tests. The words of the decode tests are the `encoding` column of opcode_table.json, bit by bit.
The expected outcomes of the vectors are those of 95_test_vectors.md, under its names. The last part shows, for every
statement that has hypotheses, a state and operands that meet them.
-/

namespace Sys2Proof.Tests

open Sys2Proof.Machine Sys2Proof.Stated

/-! ### Helpers -/

/-- A request for an offset of a buffer, on the machine after reset. -/
def req (bytes : List Byte) (offset : Nat) : State := State.reset.submit bytes offset

/-- The outcome a step from a state answers. -/
def answered (s : State) : Option DecodeOutcome :=
  match step s with
  | .next t => t.outcome
  | .fault _ => none
  | .refused _ => none

/-- The outcome of a request. -/
def answer (bytes : List Byte) (offset : Nat) : Option DecodeOutcome := answered (req bytes offset)

/-- Whether each of a list of words decodes, with nothing left, to the instruction beside it. -/
def allDecode (l : List (List Byte × Instr)) : Bool :=
  l.all fun p =>
    match decode p.1 with
    | .ok (i, rest) => decide (i = p.2) && rest.isEmpty
    | .error _ => false

/-- Whether each of a list of requests gets the outcome beside it. -/
def allAnswer (l : List (List Byte × Nat × DecodeOutcome)) : Bool :=
  l.all fun p => decide (answer p.1 p.2.1 = some p.2.2)

/-! ### Decoding: every row of the opcode map, each word written out from its encoding -/

theorem test_decode_row_0 : allDecode [
    ([0b00000000], .nop00), ([0b00000001, 0x34, 0x12], .lxiB 0x34 0x12), ([0b00000010], .staxB),
    ([0b00000011], .inxB), ([0b00000100], .inrB), ([0b00000101], .dcrB), ([0b00000110, 0xA5], .mviB 0xA5),
    ([0b00000111], .rlc), ([0b00001000], .nop08), ([0b00001001], .dadB), ([0b00001010], .ldaxB),
    ([0b00001011], .dcxB), ([0b00001100], .inrC), ([0b00001101], .dcrC), ([0b00001110, 0xA5], .mviC 0xA5),
    ([0b00001111], .rrc)] = true := by
  decide

theorem test_decode_row_1 : allDecode [
    ([0b00010000], .nop10), ([0b00010001, 0x34, 0x12], .lxiD 0x34 0x12), ([0b00010010], .staxD),
    ([0b00010011], .inxD), ([0b00010100], .inrD), ([0b00010101], .dcrD), ([0b00010110, 0xA5], .mviD 0xA5),
    ([0b00010111], .ral), ([0b00011000], .nop18), ([0b00011001], .dadD), ([0b00011010], .ldaxD),
    ([0b00011011], .dcxD), ([0b00011100], .inrE), ([0b00011101], .dcrE), ([0b00011110, 0xA5], .mviE 0xA5),
    ([0b00011111], .rar)] = true := by
  decide

theorem test_decode_row_2 : allDecode [
    ([0b00100000], .nop20), ([0b00100001, 0x34, 0x12], .lxiH 0x34 0x12),
    ([0b00100010, 0x34, 0x12], .shld 0x34 0x12), ([0b00100011], .inxH), ([0b00100100], .inrH),
    ([0b00100101], .dcrH), ([0b00100110, 0xA5], .mviH 0xA5), ([0b00100111], .daa), ([0b00101000], .nop28),
    ([0b00101001], .dadH), ([0b00101010, 0x34, 0x12], .lhld 0x34 0x12), ([0b00101011], .dcxH),
    ([0b00101100], .inrL), ([0b00101101], .dcrL), ([0b00101110, 0xA5], .mviL 0xA5), ([0b00101111], .cma)] = true := by
  decide

theorem test_decode_row_3 : allDecode [
    ([0b00110000], .nop30), ([0b00110001, 0x34, 0x12], .lxiSP 0x34 0x12),
    ([0b00110010, 0x34, 0x12], .sta 0x34 0x12), ([0b00110011], .inxSP), ([0b00110100], .inrM),
    ([0b00110101], .dcrM), ([0b00110110, 0xA5], .mviM 0xA5), ([0b00110111], .stc), ([0b00111000], .nop38),
    ([0b00111001], .dadSP), ([0b00111010, 0x34, 0x12], .lda 0x34 0x12), ([0b00111011], .dcxSP),
    ([0b00111100], .inrA), ([0b00111101], .dcrA), ([0b00111110, 0xA5], .mviA 0xA5), ([0b00111111], .cmc)] = true := by
  decide

theorem test_decode_row_4 : allDecode [
    ([0b01000000], .movBB), ([0b01000001], .movBC), ([0b01000010], .movBD), ([0b01000011], .movBE),
    ([0b01000100], .movBH), ([0b01000101], .movBL), ([0b01000110], .movBM), ([0b01000111], .movBA),
    ([0b01001000], .movCB), ([0b01001001], .movCC), ([0b01001010], .movCD), ([0b01001011], .movCE),
    ([0b01001100], .movCH), ([0b01001101], .movCL), ([0b01001110], .movCM), ([0b01001111], .movCA)] = true := by
  decide

theorem test_decode_row_5 : allDecode [
    ([0b01010000], .movDB), ([0b01010001], .movDC), ([0b01010010], .movDD), ([0b01010011], .movDE),
    ([0b01010100], .movDH), ([0b01010101], .movDL), ([0b01010110], .movDM), ([0b01010111], .movDA),
    ([0b01011000], .movEB), ([0b01011001], .movEC), ([0b01011010], .movED), ([0b01011011], .movEE),
    ([0b01011100], .movEH), ([0b01011101], .movEL), ([0b01011110], .movEM), ([0b01011111], .movEA)] = true := by
  decide

theorem test_decode_row_6 : allDecode [
    ([0b01100000], .movHB), ([0b01100001], .movHC), ([0b01100010], .movHD), ([0b01100011], .movHE),
    ([0b01100100], .movHH), ([0b01100101], .movHL), ([0b01100110], .movHM), ([0b01100111], .movHA),
    ([0b01101000], .movLB), ([0b01101001], .movLC), ([0b01101010], .movLD), ([0b01101011], .movLE),
    ([0b01101100], .movLH), ([0b01101101], .movLL), ([0b01101110], .movLM), ([0b01101111], .movLA)] = true := by
  decide

theorem test_decode_row_7 : allDecode [
    ([0b01110000], .movMB), ([0b01110001], .movMC), ([0b01110010], .movMD), ([0b01110011], .movME),
    ([0b01110100], .movMH), ([0b01110101], .movML), ([0b01110110], .hlt), ([0b01110111], .movMA),
    ([0b01111000], .movAB), ([0b01111001], .movAC), ([0b01111010], .movAD), ([0b01111011], .movAE),
    ([0b01111100], .movAH), ([0b01111101], .movAL), ([0b01111110], .movAM), ([0b01111111], .movAA)] = true := by
  decide

theorem test_decode_row_8 : allDecode [
    ([0b10000000], .addB), ([0b10000001], .addC), ([0b10000010], .addD), ([0b10000011], .addE),
    ([0b10000100], .addH), ([0b10000101], .addL), ([0b10000110], .addM), ([0b10000111], .addA),
    ([0b10001000], .adcB), ([0b10001001], .adcC), ([0b10001010], .adcD), ([0b10001011], .adcE),
    ([0b10001100], .adcH), ([0b10001101], .adcL), ([0b10001110], .adcM), ([0b10001111], .adcA)] = true := by
  decide

theorem test_decode_row_9 : allDecode [
    ([0b10010000], .subB), ([0b10010001], .subC), ([0b10010010], .subD), ([0b10010011], .subE),
    ([0b10010100], .subH), ([0b10010101], .subL), ([0b10010110], .subM), ([0b10010111], .subA),
    ([0b10011000], .sbbB), ([0b10011001], .sbbC), ([0b10011010], .sbbD), ([0b10011011], .sbbE),
    ([0b10011100], .sbbH), ([0b10011101], .sbbL), ([0b10011110], .sbbM), ([0b10011111], .sbbA)] = true := by
  decide

theorem test_decode_row_a : allDecode [
    ([0b10100000], .anaB), ([0b10100001], .anaC), ([0b10100010], .anaD), ([0b10100011], .anaE),
    ([0b10100100], .anaH), ([0b10100101], .anaL), ([0b10100110], .anaM), ([0b10100111], .anaA),
    ([0b10101000], .xraB), ([0b10101001], .xraC), ([0b10101010], .xraD), ([0b10101011], .xraE),
    ([0b10101100], .xraH), ([0b10101101], .xraL), ([0b10101110], .xraM), ([0b10101111], .xraA)] = true := by
  decide

theorem test_decode_row_b : allDecode [
    ([0b10110000], .oraB), ([0b10110001], .oraC), ([0b10110010], .oraD), ([0b10110011], .oraE),
    ([0b10110100], .oraH), ([0b10110101], .oraL), ([0b10110110], .oraM), ([0b10110111], .oraA),
    ([0b10111000], .cmpB), ([0b10111001], .cmpC), ([0b10111010], .cmpD), ([0b10111011], .cmpE),
    ([0b10111100], .cmpH), ([0b10111101], .cmpL), ([0b10111110], .cmpM), ([0b10111111], .cmpA)] = true := by
  decide

theorem test_decode_row_c : allDecode [
    ([0b11000000], .rnz), ([0b11000001], .popB), ([0b11000010, 0x34, 0x12], .jnz 0x34 0x12),
    ([0b11000011, 0x34, 0x12], .jmpC3 0x34 0x12), ([0b11000100, 0x34, 0x12], .cnz 0x34 0x12),
    ([0b11000101], .pushB), ([0b11000110, 0xA5], .adi 0xA5), ([0b11000111], .rst0), ([0b11001000], .rz),
    ([0b11001001], .retC9), ([0b11001010, 0x34, 0x12], .jz 0x34 0x12), ([0b11001011, 0x34, 0x12], .jmpCB 0x34 0x12),
    ([0b11001100, 0x34, 0x12], .cz 0x34 0x12), ([0b11001101, 0x34, 0x12], .callCD 0x34 0x12),
    ([0b11001110, 0xA5], .aci 0xA5), ([0b11001111], .rst1)] = true := by
  decide

theorem test_decode_row_d : allDecode [
    ([0b11010000], .rnc), ([0b11010001], .popD), ([0b11010010, 0x34, 0x12], .jnc 0x34 0x12),
    ([0b11010011, 0xA5], .outPort 0xA5), ([0b11010100, 0x34, 0x12], .cnc 0x34 0x12), ([0b11010101], .pushD),
    ([0b11010110, 0xA5], .sui 0xA5), ([0b11010111], .rst2), ([0b11011000], .rc), ([0b11011001], .retD9),
    ([0b11011010, 0x34, 0x12], .jc 0x34 0x12), ([0b11011011, 0xA5], .inPort 0xA5),
    ([0b11011100, 0x34, 0x12], .cc 0x34 0x12), ([0b11011101, 0x34, 0x12], .callDD 0x34 0x12),
    ([0b11011110, 0xA5], .sbi 0xA5), ([0b11011111], .rst3)] = true := by
  decide

theorem test_decode_row_e : allDecode [
    ([0b11100000], .rpo), ([0b11100001], .popH), ([0b11100010, 0x34, 0x12], .jpo 0x34 0x12), ([0b11100011], .xthl),
    ([0b11100100, 0x34, 0x12], .cpo 0x34 0x12), ([0b11100101], .pushH), ([0b11100110, 0xA5], .ani 0xA5),
    ([0b11100111], .rst4), ([0b11101000], .rpe), ([0b11101001], .pchl), ([0b11101010, 0x34, 0x12], .jpe 0x34 0x12),
    ([0b11101011], .xchg), ([0b11101100, 0x34, 0x12], .cpe 0x34 0x12),
    ([0b11101101, 0x34, 0x12], .callED 0x34 0x12), ([0b11101110, 0xA5], .xri 0xA5), ([0b11101111], .rst5)] = true := by
  decide

theorem test_decode_row_f : allDecode [
    ([0b11110000], .rp), ([0b11110001], .popPSW), ([0b11110010, 0x34, 0x12], .jp 0x34 0x12), ([0b11110011], .di),
    ([0b11110100, 0x34, 0x12], .cp 0x34 0x12), ([0b11110101], .pushPSW), ([0b11110110, 0xA5], .ori 0xA5),
    ([0b11110111], .rst6), ([0b11111000], .rm), ([0b11111001], .sphl), ([0b11111010, 0x34, 0x12], .jm 0x34 0x12),
    ([0b11111011], .ei), ([0b11111100, 0x34, 0x12], .cm 0x34 0x12), ([0b11111101, 0x34, 0x12], .callFD 0x34 0x12),
    ([0b11111110, 0xA5], .cpi 0xA5), ([0b11111111], .rst7)] = true := by
  decide

/-- A list that holds no byte, or fewer than the opcode calls for, is rejected by name (30_encoding.md R72, R73). -/
theorem test_decode_rejects : decode [] = .error .noOpcode ∧ decode [0x3E] = .error (.truncated 0x3E 2 1) ∧
    decode [0x21] = .error (.truncated 0x21 3 1) ∧ decode [0x21, 0x34] = .error (.truncated 0x21 3 2) := by decide

/-- Bytes after the instruction are left (40_decode_operation.md R115). -/
theorem test_decode_leaves_the_rest :
    decode [0x3E, 0x01, 0xC3] = .ok (.mviA 0x01, [0xC3]) ∧ decode [0x00, 0x01] = .ok (.nop00, [0x01]) := by decide

/-- The opcode table numbers the first byte as bits 7..0, byte 2 as bits 15..8 and byte 3 as bits 23..16. -/
theorem test_decodeTableWord : decodeTableWord 24 0x123421 = some (.lxiH 0x34 0x12) ∧
    decodeTableWord 16 0xFF3E = some (.mviA 0xFF) ∧ decodeTableWord 8 0xFF76 = some .hlt ∧
    decodeTableWord 8 0xED = some (.callED 0x00 0x00) := by decide

/-- An instruction placed where the step fetches is the one that runs, as the first after reset. -/
theorem test_withFetchWord :
    (answered (State.reset.withFetchWord 24 0x1000C3)).map (fun o => o.code) = some 0 ∧
    step (State.reset.withFetchWord 24 0x1000C3) = exec (.jmpC3 0x00 0x10) (State.reset.withFetchWord 24 0x1000C3) :=
  ⟨by decide, rfl⟩

/-! ### Well-formedness: each check refuses an ill-formed ROM -/

/-- An entry of the lookup ROM with no record: the id 0x08, which no record has. -/
theorem test_wf_entry_without_record :
    ({ Rom.contents with table := Rom.contents.table.set 0 (Vector.replicate 16 (.real 0x08)) } :
      Rom).everyEntryHasRecord = false := by decide

/-- A record of length 1 whose operand kind is `d8`. -/
theorem test_wf_length_of_another_kind :
    ({ Rom.contents with unk := { unknownDescriptor with operand := .d8 } } : Rom).lengthsMatchKinds = false := by
  decide

/-- Two opcodes of MOV r1, r2 with different lengths: 0x41 mapped to the record of MVI B. -/
theorem test_wf_family_with_two_lengths :
    ({ Rom.contents with
        table := Rom.contents.table.set 4 ((Rom.contents.table.get 4).set 1 (.real 0x06)) } :
      Rom).familiesHaveOneLength = false := by decide

/-- Every opcode value stands in exactly one family of column `rule`. -/
theorem test_families_partition : (ruleFamilies.flatMap Prod.snd).length = 256 ∧
    ∀ op : Byte, op ∈ ruleFamilies.flatMap Prod.snd := by decide +kernel

/-- A record filed under the high nibble of another id. -/
theorem test_wf_misfiled_id :
    ({ Rom.contents with desc := Vector.replicate 16 [(0x00, unknownDescriptor)] } : Rom).idsFiled = false := by decide

/-- Two records under one id. -/
theorem test_wf_id_twice :
    ({ Rom.contents with
        desc := Rom.contents.desc.set 0 [(0x00, unknownDescriptor), (0x00, unknownDescriptor)] } :
      Rom).idsFiled = false := by decide

/-- A sentinel whose record has length 2. -/
theorem test_wf_long_sentinel :
    ({ Rom.contents with unk := { unknownDescriptor with length := .two } } : Rom).unknownLengthOne = false := by decide

/-- A template that names an operand byte its kind does not have. -/
theorem test_wf_stray_placeholder :
    ({ Rom.contents with unk := { unknownDescriptor with operation := [.byte2] } } : Rom).placeholdersFit = false := by
  decide

/-- A descriptor ROM of another size. -/
theorem test_wf_missing_records :
    ({ Rom.contents with desc := Vector.replicate 16 [] } : Rom).countIsDescCount = false := by decide

/-- A ROM with such an entry makes its request fault, by name. -/
theorem test_romNotLoaded :
    step { req [0x00] 0 with
      rom := { Rom.contents with table := Rom.contents.table.set 0 (Vector.replicate 16 (.real 0x08)) } } =
      .fault .romNotLoaded := by rfl

/-! ### The vectors of 95_test_vectors.md -/

/-- V140 to V146. -/
theorem test_vectors_data_transfer_a : allAnswer [
    ([0x41], 0, .decoded ⟨0, 0x41, .real 0x41, "MOV B, C",
      "(B) <= (C)",
      1, 1, [], none, none, .empty⟩),
    ([0x7E], 0, .decoded ⟨0, 0x7E, .real 0x7E, "MOV A, M",
      "(A) <= ((H) (L))",
      1, 1, [], none, none, .empty⟩),
    ([0x77], 0, .decoded ⟨0, 0x77, .real 0x77, "MOV M, A",
      "((H) (L)) <= (A)",
      1, 1, [], none, none, .empty⟩),
    ([0x3E, 0xFF], 0, .decoded ⟨0, 0x3E, .real 0x3E, "MVI A, d8",
      "(A) <= #$FF",
      2, 2, [0xFF], some 0xFF, none, .empty⟩),
    ([0x36, 0x0A], 0, .decoded ⟨0, 0x36, .real 0x36, "MVI M, d8",
      "((H) (L)) <= #$0A",
      2, 2, [0x0A], some 0x0A, none, .empty⟩),
    ([0x21, 0x34, 0x12], 0, .decoded ⟨0, 0x21, .real 0x21, "LXI H, d16",
      "(H) <= #$12, (L) <= #$34",
      3, 3, [0x34, 0x12], none, some 0x1234, .empty⟩),
    ([0x31, 0x00, 0x24], 0, .decoded ⟨0, 0x31, .real 0x31, "LXI SP, d16",
      "(SP) <= #$2400",
      3, 3, [0x00, 0x24], none, some 0x2400, .empty⟩)] = true := by
  decide

/-- V147 to V153. -/
theorem test_vectors_data_transfer_b : allAnswer [
    ([0x3A, 0xFF, 0xFF], 0, .decoded ⟨0, 0x3A, .real 0x3A, "LDA a16",
      "(A) <= (#$FFFF)",
      3, 3, [0xFF, 0xFF], none, some 0xFFFF, .empty⟩),
    ([0x32, 0x00, 0x20], 0, .decoded ⟨0, 0x32, .real 0x32, "STA a16",
      "(#$2000) <= (A)",
      3, 3, [0x00, 0x20], none, some 0x2000, .empty⟩),
    ([0x2A, 0xFF, 0xFF], 0, .decoded ⟨0, 0x2A, .real 0x2A, "LHLD a16",
      "(L) <= (#$FFFF), (H) <= (#$FFFF + 1)",
      3, 3, [0xFF, 0xFF], none, some 0xFFFF, .empty⟩),
    ([0x22, 0x10, 0x20], 0, .decoded ⟨0, 0x22, .real 0x22, "SHLD a16",
      "(#$2010) <= (L), (#$2010 + 1) <= (H)",
      3, 3, [0x10, 0x20], none, some 0x2010, .empty⟩),
    ([0x1A], 0, .decoded ⟨0, 0x1A, .real 0x1A, "LDAX D",
      "(A) <= ((D) (E))",
      1, 1, [], none, none, .empty⟩),
    ([0x02], 0, .decoded ⟨0, 0x02, .real 0x02, "STAX B",
      "((B) (C)) <= (A)",
      1, 1, [], none, none, .empty⟩),
    ([0xEB], 0, .decoded ⟨0, 0xEB, .real 0xEB, "XCHG",
      "(H) <=> (D), (L) <=> (E)",
      1, 1, [], none, none, .empty⟩)] = true := by
  decide

/-- V160 to V166. -/
theorem test_vectors_arithmetic_a : allAnswer [
    ([0x80], 0, .decoded ⟨0, 0x80, .real 0x80, "ADD B",
      "(A) <= (A) + (B)",
      1, 1, [], none, none, .all⟩),
    ([0x86], 0, .decoded ⟨0, 0x86, .real 0x86, "ADD M",
      "(A) <= (A) + ((H) (L))",
      1, 1, [], none, none, .all⟩),
    ([0xC6, 0x01], 0, .decoded ⟨0, 0xC6, .real 0xC6, "ADI d8",
      "(A) <= (A) + #$01",
      2, 2, [0x01], some 0x01, none, .all⟩),
    ([0x89], 0, .decoded ⟨0, 0x89, .real 0x89, "ADC C",
      "(A) <= (A) + (C) + (CY)",
      1, 1, [], none, none, .all⟩),
    ([0x8E], 0, .decoded ⟨0, 0x8E, .real 0x8E, "ADC M",
      "(A) <= (A) + ((H) (L)) + (CY)",
      1, 1, [], none, none, .all⟩),
    ([0xCE, 0x00], 0, .decoded ⟨0, 0xCE, .real 0xCE, "ACI d8",
      "(A) <= (A) + #$00 + (CY)",
      2, 2, [0x00], some 0x00, none, .all⟩),
    ([0x97], 0, .decoded ⟨0, 0x97, .real 0x97, "SUB A",
      "(A) <= (A) - (A)",
      1, 1, [], none, none, .all⟩)] = true := by
  decide

/-- V167 to V174. -/
theorem test_vectors_arithmetic_b : allAnswer [
    ([0x96], 0, .decoded ⟨0, 0x96, .real 0x96, "SUB M",
      "(A) <= (A) - ((H) (L))",
      1, 1, [], none, none, .all⟩),
    ([0xD6, 0x80], 0, .decoded ⟨0, 0xD6, .real 0xD6, "SUI d8",
      "(A) <= (A) - #$80",
      2, 2, [0x80], some 0x80, none, .all⟩),
    ([0x98], 0, .decoded ⟨0, 0x98, .real 0x98, "SBB B",
      "(A) <= (A) - (B) - (CY)",
      1, 1, [], none, none, .all⟩),
    ([0x9E], 0, .decoded ⟨0, 0x9E, .real 0x9E, "SBB M",
      "(A) <= (A) - ((H) (L)) - (CY)",
      1, 1, [], none, none, .all⟩),
    ([0xDE, 0x7F], 0, .decoded ⟨0, 0xDE, .real 0xDE, "SBI d8",
      "(A) <= (A) - #$7F - (CY)",
      2, 2, [0x7F], some 0x7F, none, .all⟩),
    ([0x04], 0, .decoded ⟨0, 0x04, .real 0x04, "INR B",
      "(B) <= (B) + 1",
      1, 1, [], none, none, .allButCarry⟩),
    ([0x34], 0, .decoded ⟨0, 0x34, .real 0x34, "INR M",
      "((H) (L)) <= ((H) (L)) + 1",
      1, 1, [], none, none, .allButCarry⟩),
    ([0x3D], 0, .decoded ⟨0, 0x3D, .real 0x3D, "DCR A",
      "(A) <= (A) - 1",
      1, 1, [], none, none, .allButCarry⟩)] = true := by
  decide

/-- V175 to V182. -/
theorem test_vectors_arithmetic_c : allAnswer [
    ([0x35], 0, .decoded ⟨0, 0x35, .real 0x35, "DCR M",
      "((H) (L)) <= ((H) (L)) - 1",
      1, 1, [], none, none, .allButCarry⟩),
    ([0x23], 0, .decoded ⟨0, 0x23, .real 0x23, "INX H",
      "(H) (L) <= (H) (L) + 1",
      1, 1, [], none, none, .empty⟩),
    ([0x33], 0, .decoded ⟨0, 0x33, .real 0x33, "INX SP",
      "(SP) <= (SP) + 1",
      1, 1, [], none, none, .empty⟩),
    ([0x0B], 0, .decoded ⟨0, 0x0B, .real 0x0B, "DCX B",
      "(B) (C) <= (B) (C) - 1",
      1, 1, [], none, none, .empty⟩),
    ([0x3B], 0, .decoded ⟨0, 0x3B, .real 0x3B, "DCX SP",
      "(SP) <= (SP) - 1",
      1, 1, [], none, none, .empty⟩),
    ([0x29], 0, .decoded ⟨0, 0x29, .real 0x29, "DAD H",
      "(H) (L) <= (H) (L) + (H) (L)",
      1, 1, [], none, none, .carry⟩),
    ([0x39], 0, .decoded ⟨0, 0x39, .real 0x39, "DAD SP",
      "(H) (L) <= (H) (L) + (SP)",
      1, 1, [], none, none, .carry⟩),
    ([0x27], 0, .decoded ⟨0, 0x27, .real 0x27, "DAA",
      "(A) <= decimal adjust (A)",
      1, 1, [], none, none, .all⟩)] = true := by
  decide

/-- V190 to V198. -/
theorem test_vectors_logical_a : allAnswer [
    ([0xA0], 0, .decoded ⟨0, 0xA0, .real 0xA0, "ANA B",
      "(A) <= (A) & (B)",
      1, 1, [], none, none, .all⟩),
    ([0xA6], 0, .decoded ⟨0, 0xA6, .real 0xA6, "ANA M",
      "(A) <= (A) & ((H) (L))",
      1, 1, [], none, none, .all⟩),
    ([0xE6, 0x0F], 0, .decoded ⟨0, 0xE6, .real 0xE6, "ANI d8",
      "(A) <= (A) & #$0F",
      2, 2, [0x0F], some 0x0F, none, .all⟩),
    ([0xAF], 0, .decoded ⟨0, 0xAF, .real 0xAF, "XRA A",
      "(A) <= (A) ^ (A)",
      1, 1, [], none, none, .all⟩),
    ([0xAE], 0, .decoded ⟨0, 0xAE, .real 0xAE, "XRA M",
      "(A) <= (A) ^ ((H) (L))",
      1, 1, [], none, none, .all⟩),
    ([0xEE, 0xFF], 0, .decoded ⟨0, 0xEE, .real 0xEE, "XRI d8",
      "(A) <= (A) ^ #$FF",
      2, 2, [0xFF], some 0xFF, none, .all⟩),
    ([0xB0], 0, .decoded ⟨0, 0xB0, .real 0xB0, "ORA B",
      "(A) <= (A) | (B)",
      1, 1, [], none, none, .all⟩),
    ([0xB6], 0, .decoded ⟨0, 0xB6, .real 0xB6, "ORA M",
      "(A) <= (A) | ((H) (L))",
      1, 1, [], none, none, .all⟩),
    ([0xF6, 0x80], 0, .decoded ⟨0, 0xF6, .real 0xF6, "ORI d8",
      "(A) <= (A) | #$80",
      2, 2, [0x80], some 0x80, none, .all⟩)] = true := by
  decide

/-- V199 to V208. -/
theorem test_vectors_logical_b : allAnswer [
    ([0xB8], 0, .decoded ⟨0, 0xB8, .real 0xB8, "CMP B",
      "(A) - (B)",
      1, 1, [], none, none, .all⟩),
    ([0xBE], 0, .decoded ⟨0, 0xBE, .real 0xBE, "CMP M",
      "(A) - ((H) (L))",
      1, 1, [], none, none, .all⟩),
    ([0xFE, 0x00], 0, .decoded ⟨0, 0xFE, .real 0xFE, "CPI d8",
      "(A) - #$00",
      2, 2, [0x00], some 0x00, none, .all⟩),
    ([0x07], 0, .decoded ⟨0, 0x07, .real 0x07, "RLC",
      "(A) <= (A) << 1 | (A7), (CY) <= (A7)",
      1, 1, [], none, none, .carry⟩),
    ([0x0F], 0, .decoded ⟨0, 0x0F, .real 0x0F, "RRC",
      "(A) <= (A) >> 1 | (A0) << 7, (CY) <= (A0)",
      1, 1, [], none, none, .carry⟩),
    ([0x17], 0, .decoded ⟨0, 0x17, .real 0x17, "RAL",
      "(A) <= (A) << 1 | (CY), (CY) <= (A7)",
      1, 1, [], none, none, .carry⟩),
    ([0x1F], 0, .decoded ⟨0, 0x1F, .real 0x1F, "RAR",
      "(A) <= (A) >> 1 | (CY) << 7, (CY) <= (A0)",
      1, 1, [], none, none, .carry⟩),
    ([0x2F], 0, .decoded ⟨0, 0x2F, .real 0x2F, "CMA",
      "(A) <= ~(A)",
      1, 1, [], none, none, .empty⟩),
    ([0x3F], 0, .decoded ⟨0, 0x3F, .real 0x3F, "CMC",
      "(CY) <= ~(CY)",
      1, 1, [], none, none, .carry⟩),
    ([0x37], 0, .decoded ⟨0, 0x37, .real 0x37, "STC",
      "(CY) <= 1",
      1, 1, [], none, none, .carry⟩)] = true := by
  decide

/-- V220 to V227. -/
theorem test_vectors_branch : allAnswer [
    ([0xC3, 0x00, 0x10], 0, .decoded ⟨0, 0xC3, .real 0xC3, "JMP a16",
      "(PC) <= #$1000",
      3, 3, [0x00, 0x10], none, some 0x1000, .empty⟩),
    ([0xC2, 0x34, 0x12], 0, .decoded ⟨0, 0xC2, .real 0xC2, "JNZ a16",
      "if NZ then (PC) <= #$1234",
      3, 3, [0x34, 0x12], none, some 0x1234, .empty⟩),
    ([0xED, 0x00, 0x01], 0, .decoded ⟨0, 0xED, .real 0xCD, "CALL a16",
      "((SP) - 1) <= (PCH), ((SP) - 2) <= (PCL), (SP) <= (SP) - 2, (PC) <= #$0100",
      3, 3, [0x00, 0x01], none, some 0x0100, .empty⟩),
    ([0xCC, 0xFF, 0x00], 0, .decoded ⟨0, 0xCC, .real 0xCC, "CZ a16",
      "if Z then ((SP) - 1) <= (PCH), ((SP) - 2) <= (PCL), (SP) <= (SP) - 2, (PC) <= #$00FF",
      3, 3, [0xFF, 0x00], none, some 0x00FF, .empty⟩),
    ([0xD9], 0, .decoded ⟨0, 0xD9, .real 0xC9, "RET",
      "(PCL) <= ((SP)), (PCH) <= ((SP) + 1), (SP) <= (SP) + 2",
      1, 1, [], none, none, .empty⟩),
    ([0xC0], 0, .decoded ⟨0, 0xC0, .real 0xC0, "RNZ",
      "if NZ then (PCL) <= ((SP)), (PCH) <= ((SP) + 1), (SP) <= (SP) + 2",
      1, 1, [], none, none, .empty⟩),
    ([0xFF], 0, .decoded ⟨0, 0xFF, .real 0xFF, "RST 7",
      "((SP) - 1) <= (PCH), ((SP) - 2) <= (PCL), (SP) <= (SP) - 2, (PC) <= #$0038",
      1, 1, [], none, none, .empty⟩),
    ([0xE9], 0, .decoded ⟨0, 0xE9, .real 0xE9, "PCHL",
      "(PCH) <= (H), (PCL) <= (L)",
      1, 1, [], none, none, .empty⟩)] = true := by
  decide

/-- V240 to V245. -/
theorem test_vectors_stack : allAnswer [
    ([0xC5], 0, .decoded ⟨0, 0xC5, .real 0xC5, "PUSH B",
      "((SP) - 1) <= (B), ((SP) - 2) <= (C), (SP) <= (SP) - 2",
      1, 1, [], none, none, .empty⟩),
    ([0xF5], 0, .decoded ⟨0, 0xF5, .real 0xF5, "PUSH PSW",
      "((SP) - 1) <= (A), ((SP) - 2) <= (FLAGS), (SP) <= (SP) - 2",
      1, 1, [], none, none, .empty⟩),
    ([0xE1], 0, .decoded ⟨0, 0xE1, .real 0xE1, "POP H",
      "(L) <= ((SP)), (H) <= ((SP) + 1), (SP) <= (SP) + 2",
      1, 1, [], none, none, .empty⟩),
    ([0xF1], 0, .decoded ⟨0, 0xF1, .real 0xF1, "POP PSW",
      "(FLAGS) <= ((SP)), (A) <= ((SP) + 1), (SP) <= (SP) + 2",
      1, 1, [], none, none, .all⟩),
    ([0xE3], 0, .decoded ⟨0, 0xE3, .real 0xE3, "XTHL",
      "(L) <=> ((SP)), (H) <=> ((SP) + 1)",
      1, 1, [], none, none, .empty⟩),
    ([0xF9], 0, .decoded ⟨0, 0xF9, .real 0xF9, "SPHL",
      "(SP) <= (H) (L)",
      1, 1, [], none, none, .empty⟩)] = true := by
  decide

/-- V246 to V251. -/
theorem test_vectors_io_control : allAnswer [
    ([0xDB, 0x01], 0, .decoded ⟨0, 0xDB, .real 0xDB, "IN d8",
      "(A) <= (port #$01)",
      2, 2, [0x01], some 0x01, none, .empty⟩),
    ([0xD3, 0xFF], 0, .decoded ⟨0, 0xD3, .real 0xD3, "OUT d8",
      "(port #$FF) <= (A)",
      2, 2, [0xFF], some 0xFF, none, .empty⟩),
    ([0xFB], 0, .decoded ⟨0, 0xFB, .real 0xFB, "EI",
      "enable interrupts",
      1, 1, [], none, none, .empty⟩),
    ([0xF3], 0, .decoded ⟨0, 0xF3, .real 0xF3, "DI",
      "disable interrupts",
      1, 1, [], none, none, .empty⟩),
    ([0x76], 0, .decoded ⟨0, 0x76, .real 0x76, "HLT",
      "halt",
      1, 1, [], none, none, .empty⟩),
    ([0x00], 0, .decoded ⟨0, 0x00, .real 0x00, "NOP",
      "no operation",
      1, 1, [], none, none, .empty⟩)] = true := by
  decide

/-- X1 to X10. -/
theorem test_corner_cases_a : allAnswer [
    ([], 0, .outOfRange ⟨0, 0⟩),
    ([0x00, 0x00], 2, .outOfRange ⟨2, 2⟩),
    ([0x00], 7, .outOfRange ⟨7, 1⟩),
    ([0xC3], 0, .truncated ⟨0, 0xC3, .real 0xC3, 3, 1, [0xC3]⟩),
    ([0xC3, 0x00], 0, .truncated ⟨0, 0xC3, .real 0xC3, 3, 2, [0xC3, 0x00]⟩),
    ([0x00, 0xFE], 1, .truncated ⟨1, 0xFE, .real 0xFE, 2, 1, [0xFE]⟩),
    ([0x00, 0xCD, 0xFF, 0xFF], 1, .decoded ⟨1, 0xCD, .real 0xCD, "CALL a16",
      "((SP) - 1) <= (PCH), ((SP) - 2) <= (PCL), (SP) <= (SP) - 2, (PC) <= #$FFFF",
      3, 3, [0xFF, 0xFF], none, some 0xFFFF, .empty⟩),
    ([0x21, 0x34, 0x12], 1, .decoded ⟨1, 0x34, .real 0x34, "INR M",
      "((H) (L)) <= ((H) (L)) + 1",
      1, 1, [], none, none, .allButCarry⟩),
    ([0x21, 0x34, 0x12], 2, .decoded ⟨2, 0x12, .real 0x12, "STAX D",
      "((D) (E)) <= (A)",
      1, 1, [], none, none, .empty⟩),
    ([0x3E, 0x01, 0xC3], 0, .decoded ⟨0, 0x3E, .real 0x3E, "MVI A, d8",
      "(A) <= #$01",
      2, 2, [0x01], some 0x01, none, .empty⟩)] = true := by
  decide

/-- X11 to X20. -/
theorem test_corner_cases_b : allAnswer [
    ([0x2A, 0xFF, 0xFF], 0, .decoded ⟨0, 0x2A, .real 0x2A, "LHLD a16",
      "(L) <= (#$FFFF), (H) <= (#$FFFF + 1)",
      3, 3, [0xFF, 0xFF], none, some 0xFFFF, .empty⟩),
    ([0x32, 0x00, 0x00], 0, .decoded ⟨0, 0x32, .real 0x32, "STA a16",
      "(#$0000) <= (A)",
      3, 3, [0x00, 0x00], none, some 0x0000, .empty⟩),
    ([0xFE, 0x00], 0, .decoded ⟨0, 0xFE, .real 0xFE, "CPI d8",
      "(A) - #$00",
      2, 2, [0x00], some 0x00, none, .all⟩),
    ([0x06, 0xAB], 0, .decoded ⟨0, 0x06, .real 0x06, "MVI B, d8",
      "(B) <= #$AB",
      2, 2, [0xAB], some 0xAB, none, .empty⟩),
    ([0xCB, 0x00], 0, .truncated ⟨0, 0xCB, .real 0xC3, 3, 2, [0xCB, 0x00]⟩),
    ([0xFF], 0, .decoded ⟨0, 0xFF, .real 0xFF, "RST 7",
      "((SP) - 1) <= (PCH), ((SP) - 2) <= (PCL), (SP) <= (SP) - 2, (PC) <= #$0038",
      1, 1, [], none, none, .empty⟩),
    ([0x76, 0x00], 0, .decoded ⟨0, 0x76, .real 0x76, "HLT",
      "halt",
      1, 1, [], none, none, .empty⟩),
    ([0xDB, 0x10], 0, .decoded ⟨0, 0xDB, .real 0xDB, "IN d8",
      "(A) <= (port #$10)",
      2, 2, [0x10], some 0x10, none, .empty⟩),
    ([0x40], 0, .decoded ⟨0, 0x40, .real 0x40, "MOV B, B",
      "(B) <= (B)",
      1, 1, [], none, none, .empty⟩),
    ([0x76], 0, .decoded ⟨0, 0x76, .real 0x76, "HLT",
      "halt",
      1, 1, [], none, none, .empty⟩)] = true := by
  decide

/-- X21: 300 bytes 0x00, which no cell lists, then an instruction. -/
theorem test_large_offset : answered { State.reset with
    buf := [(300, 0xC3), (301, 0x34), (302, 0x12)], n := 303, offset := 300, requested := true } =
  some (.decoded ⟨300, 0xC3, .real 0xC3, "JMP a16",
      "(PC) <= #$1234",
      3, 3, [0x34, 0x12], none, some 0x1234, .empty⟩) := by decide

/-- S1 to S5 and S5b. -/
theorem test_worked_examples : allAnswer [
    ([0x21, 0x34, 0x12], 0, .decoded ⟨0, 0x21, .real 0x21, "LXI H, d16",
      "(H) <= #$12, (L) <= #$34",
      3, 3, [0x34, 0x12], none, some 0x1234, .empty⟩),
    ([0xC3, 0x00, 0x10], 0, .decoded ⟨0, 0xC3, .real 0xC3, "JMP a16",
      "(PC) <= #$1000",
      3, 3, [0x00, 0x10], none, some 0x1000, .empty⟩),
    ([0x3E, 0xFF], 0, .decoded ⟨0, 0x3E, .real 0x3E, "MVI A, d8",
      "(A) <= #$FF",
      2, 2, [0xFF], some 0xFF, none, .empty⟩),
    ([0x21], 0, .truncated ⟨0, 0x21, .real 0x21, 3, 1, [0x21]⟩),
    ([0xED], 0, .truncated ⟨0, 0xED, .real 0xCD, 3, 1, [0xED]⟩),
    ([0xED, 0x34, 0x12], 0, .decoded ⟨0, 0xED, .real 0xCD, "CALL a16",
      "((SP) - 1) <= (PCH), ((SP) - 2) <= (PCL), (SP) <= (SP) - 2, (PC) <= #$1234",
      3, 3, [0x34, 0x12], none, some 0x1234, .empty⟩)] = true := by
  decide

/-- S6: of the 256 single bytes, 208 decode and 48 are truncated; followed by two bytes all 256 decode. -/
theorem test_totality :
    ((List.range 256).countP fun k => (answer [BitVec.ofNat 8 k] 0).map DecodeOutcome.code == some 0) = 208 ∧
    ((List.range 256).countP fun k => (answer [BitVec.ofNat 8 k] 0).map DecodeOutcome.code == some 3) = 48 ∧
    ((List.range 256).countP fun k => (answer [BitVec.ofNat 8 k, 0, 0] 0).map DecodeOutcome.code == some 0) = 256 := by
  refine ⟨?_, ?_, ?_⟩ <;> decide +kernel

/-- The second and third turns of the walk P4: the cursor advances after `Decoded`, and stops after a truncation. -/
theorem test_walk_turns :
    (match step (State.reset.startWalk [0x48, 0x69, 0x21, 0x00]) with
      | .next s => (s.offset, s.requested, s.trace.length)
      | _ => (0, false, 0)) = (1, true, 1) ∧
    (match step { req [0x48, 0x69, 0x21, 0x00] 2 with trace := [] } with
      | .next s => (s.offset, s.requested, s.trace.length)
      | _ => (0, false, 0)) = (2, false, 1) ∧
    (State.reset.startWalk []).requested = false := by decide

/-! ### Requests the block cannot take, and the sentinel -/

theorem test_no_request : step State.reset = .refused .noRequest := by rfl

/-- A write of the window during a request, and a change of the length (70_reset_and_hazards.md R295). -/
theorem test_window_changed :
    step ((req [0x21, 0x34, 0x12] 0).writeDuring 2 0x13) = .refused .windowChanged ∧
    step ((req [0x21, 0x34, 0x12] 0).resizeDuring 2) = .refused .windowChanged := ⟨rfl, rfl⟩

/-- A write past the window, or of the byte that is there, changes nothing of the outcome. -/
theorem test_window_unchanged :
    (answered ((req [0x00, 0x01, 0x02, 0x03] 0).writeDuring 3 0x55)).map DecodeOutcome.code = some 0 ∧
    (answered ((req [0x00, 0x01, 0x02, 0x03] 0).writeDuring 1 0x01)).map DecodeOutcome.code = some 0 := by decide

/-- A write between requests is what the next request reads (70_reset_and_hazards.md R296). -/
theorem test_write_between :
    (answered ((req [0x00, 0x76] 1).writeBetween 1 0x2F)).bind reportedOpcode = some 0x2F := by decide

/-- A ROM whose row 0 is mapped to the sentinel: R118 and the record of 30_encoding.md R81. -/
def unmapped : Rom := { Rom.contents with table := Rom.contents.table.set 0 (Vector.replicate 16 .unk) }

theorem test_unknown : answered { req [0x0A] 0 with rom := unmapped } =
    some (.unknown ⟨0, 0x0A, .unk, "???", "unrecognized instruction #$0A", 1, 1⟩) := by decide

/-! ### Fields of the opcode byte (30_encoding.md R76, R77) and the text of a template -/

/-- `10 ooo SSS` is the register ALU operation `ooo` of the register `SSS`. -/
theorem test_alu_register_fields : ∀ o r : BitVec 3,
    (Rom.contents.record (Rom.contents.lookup (0b10#2 ++ o ++ r))).map Descriptor.mnemonic =
      some (aluName o ++ " " ++ registerName r) := by decide

/-- `11 ooo 110` is the immediate ALU operation `ooo`. -/
theorem test_alu_immediate_fields : ∀ o : BitVec 3,
    (Rom.contents.record (Rom.contents.lookup (0b11#2 ++ o ++ 0b110#3))).map Descriptor.mnemonic =
      some (aluImmediateName o ++ " d8") := by decide

/-- The restart targets of 44_branch.md R226. -/
theorem test_restart_targets : restartTarget 1 = 0x0008 ∧ restartTarget 7 = 0x0038 ∧ restartTarget 0 = 0 := by decide

/-- The template of LXI SP as the spec writes it: the text and one placeholder word between braces. -/
theorem test_template_source :
    (Rom.contents.record (.real 0x31)).map (fun e => e.operation.source) =
      some ("(SP) <= " ++ String.ofList [Char.ofNat 123, 'a', '1', '6', Char.ofNat 125]) := by decide

/-- INR's metadata lists every flag but CY (42_arithmetic.md R172). -/
theorem test_flag_members : (Rom.contents.record (.real 0x04)).map (fun e =>
    (e.flags.has .z, e.flags.has .s, e.flags.has .p, e.flags.has .cy, e.flags.has .ac)) =
      some (true, true, true, false, true) := by decide

/-! ### Witnesses: what the statements assume can be met -/

theorem req_rom (bs : List Byte) (k : Nat) : (req bs k).RomLoaded := rfl

theorem req_ready (bs : List Byte) (k : Nat) : (req bs k).Ready := ⟨rfl, rfl⟩

theorem req_byte (bs : List Byte) (k i : Nat) (h : i < bs.length) : (req bs k).readByte i = some bs[i] := by
  refine State.readByte_eq_some.mpr ⟨h, ?_⟩
  have := Memory.read_load_inside (m := []) ⟨List.Pairwise.nil, by simp⟩ 0 i bs h
  simpa [req] using this

theorem req_wf (bs : List Byte) (k : Nat) : Memory.wf (req bs k).buf :=
  Memory.load_wf ⟨List.Pairwise.nil, by simp⟩ 0 bs

/-- What the clauses of `AnswersOneByte` assume, met by requests at the boundary of each clause. -/
def OneByteHyps (op : Byte) (i : Instr) : Prop :=
  ((req [op] 1).RomLoaded ∧ (req [op] 1).Ready ∧ (req [op] 1).n = (req [op] 1).offset) ∧
  ((req [op] 0).RomLoaded ∧ (req [op] 0).Ready ∧ (req [op] 0).readByte (req [op] 0).offset = some op ∧
    (req [op] 0).n = (req [op] 0).offset + 1) ∧
  (i.opcode = op ∧ (req [op] 0).offset < (req [op] 0).n)

theorem oneByteHyps (op : Byte) (i : Instr) (h : i.opcode = op) : OneByteHyps op i :=
  ⟨⟨rfl, req_ready _ _, rfl⟩, ⟨rfl, req_ready _ _, req_byte [op] 0 0 (by simp), rfl⟩, h, Nat.zero_lt_one⟩

/-- What the clauses of `AnswersTwoBytes` assume, met by requests at the boundary of each clause. -/
def TwoByteHyps (op b2 : Byte) (i : Instr) : Prop :=
  ((req [op, b2] 2).RomLoaded ∧ (req [op, b2] 2).Ready ∧ (req [op, b2] 2).n = (req [op, b2] 2).offset) ∧
  ((req [op] 0).RomLoaded ∧ (req [op] 0).Ready ∧ (req [op] 0).readByte (req [op] 0).offset = some op ∧
    (req [op] 0).n = (req [op] 0).offset + 1) ∧
  ((req [op, b2] 0).RomLoaded ∧ (req [op, b2] 0).Ready ∧ (req [op, b2] 0).readByte (req [op, b2] 0).offset = some op ∧
    (req [op, b2] 0).readByte ((req [op, b2] 0).offset + 1) = some b2) ∧
  (i.opcode = op ∧ i.operands = [b2] ∧ (req [op, b2] 0).offset + 2 = (req [op, b2] 0).n)

theorem twoByteHyps (op b2 : Byte) (i : Instr) (h : i.opcode = op) (h' : i.operands = [b2]) : TwoByteHyps op b2 i :=
  ⟨⟨rfl, req_ready _ _, rfl⟩, ⟨rfl, req_ready _ _, req_byte [op] 0 0 (by simp), rfl⟩,
    ⟨rfl, req_ready _ _, req_byte [op, b2] 0 0 (by simp), req_byte [op, b2] 0 1 (by simp)⟩, h, h', rfl⟩

/-- What the clauses of `AnswersThreeBytes` assume, met by requests at the boundary of each clause. -/
def ThreeByteHyps (op b2 b3 : Byte) (i : Instr) : Prop :=
  ((req [op, b2, b3] 3).RomLoaded ∧ (req [op, b2, b3] 3).Ready ∧
    (req [op, b2, b3] 3).n = (req [op, b2, b3] 3).offset) ∧
  ((req [op] 0).RomLoaded ∧ (req [op] 0).Ready ∧ (req [op] 0).readByte (req [op] 0).offset = some op ∧
    (req [op] 0).n = (req [op] 0).offset + 1) ∧
  ((req [op, b2] 0).RomLoaded ∧ (req [op, b2] 0).Ready ∧ (req [op, b2] 0).readByte (req [op, b2] 0).offset = some op ∧
    (req [op, b2] 0).readByte ((req [op, b2] 0).offset + 1) = some b2 ∧
    (req [op, b2] 0).n = (req [op, b2] 0).offset + 2) ∧
  ((req [op, b2, b3] 0).RomLoaded ∧ (req [op, b2, b3] 0).Ready ∧
    (req [op, b2, b3] 0).readByte (req [op, b2, b3] 0).offset = some op ∧
    (req [op, b2, b3] 0).readByte ((req [op, b2, b3] 0).offset + 1) = some b2 ∧
    (req [op, b2, b3] 0).readByte ((req [op, b2, b3] 0).offset + 2) = some b3) ∧
  (i.opcode = op ∧ i.operands = [b2, b3] ∧ (req [op, b2, b3] 0).offset + 3 = (req [op, b2, b3] 0).n)

theorem threeByteHyps (op b2 b3 : Byte) (i : Instr) (h : i.opcode = op) (h' : i.operands = [b2, b3]) :
    ThreeByteHyps op b2 b3 i :=
  ⟨⟨rfl, req_ready _ _, rfl⟩, ⟨rfl, req_ready _ _, req_byte [op] 0 0 (by simp), rfl⟩,
    ⟨rfl, req_ready _ _, req_byte [op, b2] 0 0 (by simp), req_byte [op, b2] 0 1 (by simp), rfl⟩,
    ⟨rfl, req_ready _ _, req_byte [op, b2, b3] 0 0 (by simp), req_byte [op, b2, b3] 0 1 (by simp),
      req_byte [op, b2, b3] 0 2 (by simp)⟩, h, h', rfl⟩

theorem witness_MovRows :
    ¬ ((7 : BitVec 3) = 6 ∧ (6 : BitVec 3) = 6) ∧ ¬ ((6 : BitVec 3) = 6 ∧ (7 : BitVec 3) = 6) ∧
    OneByteHyps 0x40 .movBB ∧ OneByteHyps 0x7F .movAA ∧ OneByteHyps 0x77 .movMA ∧ OneByteHyps 0x7E .movAM :=
  ⟨by decide, by decide, oneByteHyps _ _ rfl, oneByteHyps _ _ rfl, oneByteHyps _ _ rfl, oneByteHyps _ _ rfl⟩

theorem witness_MviRows :
    TwoByteHyps 0x06 0xFF (.mviB 0xFF) ∧ TwoByteHyps 0x36 0xFF (.mviM 0xFF) ∧ TwoByteHyps 0x3E 0xFF (.mviA 0xFF) :=
  ⟨twoByteHyps _ _ _ rfl rfl, twoByteHyps _ _ _ rfl rfl, twoByteHyps _ _ _ rfl rfl⟩

theorem witness_LxiRows :
    (0 : BitVec 2) ≠ 3 ∧ (2 : BitVec 2) ≠ 3 ∧ ThreeByteHyps 0x01 0xFF 0x00 (.lxiB 0xFF 0x00) ∧
    ThreeByteHyps 0x21 0xFF 0x00 (.lxiH 0xFF 0x00) ∧ ThreeByteHyps 0x31 0xFF 0x00 (.lxiSP 0xFF 0x00) :=
  ⟨by decide, by decide, threeByteHyps _ _ _ _ rfl rfl, threeByteHyps _ _ _ _ rfl rfl, threeByteHyps _ _ _ _ rfl rfl⟩

theorem witness_DirectAddressRows :
    ThreeByteHyps 0x3A 0xFF 0x00 (.lda 0xFF 0x00) ∧ ThreeByteHyps 0x32 0xFF 0x00 (.sta 0xFF 0x00) ∧
    ThreeByteHyps 0x2A 0xFF 0x00 (.lhld 0xFF 0x00) ∧ ThreeByteHyps 0x22 0xFF 0x00 (.shld 0xFF 0x00) :=
  ⟨threeByteHyps _ _ _ _ rfl rfl, threeByteHyps _ _ _ _ rfl rfl, threeByteHyps _ _ _ _ rfl rfl,
    threeByteHyps _ _ _ _ rfl rfl⟩

theorem witness_IndirectAndExchangeRows :
    OneByteHyps 0x0A .ldaxB ∧ OneByteHyps 0x1A .ldaxD ∧ OneByteHyps 0x02 .staxB ∧ OneByteHyps 0x12 .staxD ∧
    OneByteHyps 0xEB .xchg :=
  ⟨oneByteHyps _ _ rfl, oneByteHyps _ _ rfl, oneByteHyps _ _ rfl, oneByteHyps _ _ rfl, oneByteHyps _ _ rfl⟩

theorem witness_AddSubtractRows :
    OneByteHyps 0x80 .addB ∧ OneByteHyps 0x87 .addA ∧ OneByteHyps 0x88 .adcB ∧ OneByteHyps 0x8F .adcA ∧
    OneByteHyps 0x90 .subB ∧ OneByteHyps 0x97 .subA ∧ OneByteHyps 0x98 .sbbB ∧ OneByteHyps 0x9F .sbbA :=
  ⟨oneByteHyps _ _ rfl, oneByteHyps _ _ rfl, oneByteHyps _ _ rfl, oneByteHyps _ _ rfl, oneByteHyps _ _ rfl,
    oneByteHyps _ _ rfl, oneByteHyps _ _ rfl, oneByteHyps _ _ rfl⟩

theorem witness_AddSubtractImmediateRows :
    TwoByteHyps 0xC6 0xFF (.adi 0xFF) ∧ TwoByteHyps 0xCE 0xFF (.aci 0xFF) ∧ TwoByteHyps 0xD6 0xFF (.sui 0xFF) ∧
    TwoByteHyps 0xDE 0xFF (.sbi 0xFF) :=
  ⟨twoByteHyps _ _ _ rfl rfl, twoByteHyps _ _ _ rfl rfl, twoByteHyps _ _ _ rfl rfl, twoByteHyps _ _ _ rfl rfl⟩

theorem witness_IncrementDecrementRows :
    OneByteHyps 0x04 .inrB ∧ OneByteHyps 0x3C .inrA ∧ OneByteHyps 0x34 .inrM ∧ OneByteHyps 0x05 .dcrB ∧
    OneByteHyps 0x3D .dcrA ∧ OneByteHyps 0x35 .dcrM :=
  ⟨oneByteHyps _ _ rfl, oneByteHyps _ _ rfl, oneByteHyps _ _ rfl, oneByteHyps _ _ rfl, oneByteHyps _ _ rfl,
    oneByteHyps _ _ rfl⟩

theorem witness_PairArithmeticRows :
    OneByteHyps 0x03 .inxB ∧ OneByteHyps 0x33 .inxSP ∧ OneByteHyps 0x0B .dcxB ∧ OneByteHyps 0x3B .dcxSP ∧
    OneByteHyps 0x09 .dadB ∧ OneByteHyps 0x39 .dadSP ∧ OneByteHyps 0x27 .daa :=
  ⟨oneByteHyps _ _ rfl, oneByteHyps _ _ rfl, oneByteHyps _ _ rfl, oneByteHyps _ _ rfl, oneByteHyps _ _ rfl,
    oneByteHyps _ _ rfl, oneByteHyps _ _ rfl⟩

theorem witness_LogicalRows :
    OneByteHyps 0xA0 .anaB ∧ OneByteHyps 0xA7 .anaA ∧ OneByteHyps 0xA8 .xraB ∧ OneByteHyps 0xAF .xraA ∧
    OneByteHyps 0xB0 .oraB ∧ OneByteHyps 0xB7 .oraA ∧ OneByteHyps 0xB8 .cmpB ∧ OneByteHyps 0xBF .cmpA :=
  ⟨oneByteHyps _ _ rfl, oneByteHyps _ _ rfl, oneByteHyps _ _ rfl, oneByteHyps _ _ rfl, oneByteHyps _ _ rfl,
    oneByteHyps _ _ rfl, oneByteHyps _ _ rfl, oneByteHyps _ _ rfl⟩

theorem witness_LogicalImmediateRows :
    TwoByteHyps 0xE6 0xFF (.ani 0xFF) ∧ TwoByteHyps 0xEE 0xFF (.xri 0xFF) ∧ TwoByteHyps 0xF6 0xFF (.ori 0xFF) ∧
    TwoByteHyps 0xFE 0xFF (.cpi 0xFF) :=
  ⟨twoByteHyps _ _ _ rfl rfl, twoByteHyps _ _ _ rfl rfl, twoByteHyps _ _ _ rfl rfl, twoByteHyps _ _ _ rfl rfl⟩

theorem witness_RotateAndCarryRows :
    OneByteHyps 0x07 .rlc ∧ OneByteHyps 0x0F .rrc ∧ OneByteHyps 0x17 .ral ∧ OneByteHyps 0x1F .rar ∧
    OneByteHyps 0x2F .cma ∧ OneByteHyps 0x3F .cmc ∧ OneByteHyps 0x37 .stc :=
  ⟨oneByteHyps _ _ rfl, oneByteHyps _ _ rfl, oneByteHyps _ _ rfl, oneByteHyps _ _ rfl, oneByteHyps _ _ rfl,
    oneByteHyps _ _ rfl, oneByteHyps _ _ rfl⟩

theorem witness_JumpAndCallRows :
    ThreeByteHyps 0xC3 0xFF 0x00 (.jmpC3 0xFF 0x00) ∧ ThreeByteHyps 0xCB 0xFF 0x00 (.jmpCB 0xFF 0x00) ∧
    ThreeByteHyps 0xC2 0xFF 0x00 (.jnz 0xFF 0x00) ∧ ThreeByteHyps 0xFA 0xFF 0x00 (.jm 0xFF 0x00) ∧
    ThreeByteHyps 0xCD 0xFF 0x00 (.callCD 0xFF 0x00) ∧ ThreeByteHyps 0xDD 0xFF 0x00 (.callDD 0xFF 0x00) ∧
    ThreeByteHyps 0xED 0xFF 0x00 (.callED 0xFF 0x00) ∧ ThreeByteHyps 0xFD 0xFF 0x00 (.callFD 0xFF 0x00) ∧
    ThreeByteHyps 0xC4 0xFF 0x00 (.cnz 0xFF 0x00) ∧ ThreeByteHyps 0xFC 0xFF 0x00 (.cm 0xFF 0x00) :=
  ⟨threeByteHyps _ _ _ _ rfl rfl, threeByteHyps _ _ _ _ rfl rfl, threeByteHyps _ _ _ _ rfl rfl,
    threeByteHyps _ _ _ _ rfl rfl, threeByteHyps _ _ _ _ rfl rfl, threeByteHyps _ _ _ _ rfl rfl,
    threeByteHyps _ _ _ _ rfl rfl, threeByteHyps _ _ _ _ rfl rfl, threeByteHyps _ _ _ _ rfl rfl,
    threeByteHyps _ _ _ _ rfl rfl⟩

theorem witness_ReturnAndRestartRows :
    OneByteHyps 0xC9 .retC9 ∧ OneByteHyps 0xD9 .retD9 ∧ OneByteHyps 0xC0 .rnz ∧ OneByteHyps 0xF8 .rm ∧
    OneByteHyps 0xC7 .rst0 ∧ OneByteHyps 0xFF .rst7 ∧ OneByteHyps 0xE9 .pchl :=
  ⟨oneByteHyps _ _ rfl, oneByteHyps _ _ rfl, oneByteHyps _ _ rfl, oneByteHyps _ _ rfl, oneByteHyps _ _ rfl,
    oneByteHyps _ _ rfl, oneByteHyps _ _ rfl⟩

theorem witness_StackRows :
    (0 : BitVec 2) ≠ 3 ∧ (2 : BitVec 2) ≠ 3 ∧ OneByteHyps 0xC5 .pushB ∧ OneByteHyps 0xE5 .pushH ∧
    OneByteHyps 0xC1 .popB ∧ OneByteHyps 0xE1 .popH ∧ OneByteHyps 0xF5 .pushPSW ∧ OneByteHyps 0xF1 .popPSW ∧
    OneByteHyps 0xE3 .xthl ∧ OneByteHyps 0xF9 .sphl :=
  ⟨by decide, by decide, oneByteHyps _ _ rfl, oneByteHyps _ _ rfl, oneByteHyps _ _ rfl, oneByteHyps _ _ rfl,
    oneByteHyps _ _ rfl, oneByteHyps _ _ rfl, oneByteHyps _ _ rfl, oneByteHyps _ _ rfl⟩

theorem witness_PortRows :
    TwoByteHyps 0xDB 0xFF (.inPort 0xFF) ∧ TwoByteHyps 0xD3 0xFF (.outPort 0xFF) :=
  ⟨twoByteHyps _ _ _ rfl rfl, twoByteHyps _ _ _ rfl rfl⟩

theorem witness_MachineControlRows :
    OneByteHyps 0xFB .ei ∧ OneByteHyps 0xF3 .di ∧ OneByteHyps 0x76 .hlt ∧ OneByteHyps 0x00 .nop00 ∧
    OneByteHyps 0x08 .nop08 ∧ OneByteHyps 0x38 .nop38 :=
  ⟨oneByteHyps _ _ rfl, oneByteHyps _ _ rfl, oneByteHyps _ _ rfl, oneByteHyps _ _ rfl, oneByteHyps _ _ rfl,
    oneByteHyps _ _ rfl⟩

/-! The other statements with hypotheses. -/

theorem witness_StepAnswersTheReferenceDecode : (req [0x21, 0x34] 0).RomLoaded ∧ (req [0x21, 0x34] 0).Ready ∧
    (∀ i, i < (req [0x21, 0x34] 0).n → (fun i => Memory.read (req [0x21, 0x34] 0).buf i) i =
      Memory.read (req [0x21, 0x34] 0).buf i) ∧ (req [] 0).RomLoaded ∧ (req [] 0).Ready :=
  ⟨rfl, req_ready _ _, fun _ _ => rfl, rfl, req_ready _ _⟩

theorem witness_StepRunsTheDecodedInstruction : (req [0x00, 0xC3, 0x00, 0x10] 1).Ready ∧
    ∀ k (h : k < (encode (.jmpC3 0x00 0x10)).length),
      (req [0x00, 0xC3, 0x00, 0x10] 1).readByte ((req [0x00, 0xC3, 0x00, 0x10] 1).offset + k) =
        some (encode (.jmpC3 0x00 0x10))[k] := by
  refine ⟨req_ready _ _, fun k h => ?_⟩
  have h' : k < 3 := h
  have := req_byte [0x00, 0xC3, 0x00, 0x10] 1 (1 + k) (by simp only [List.length_cons, List.length_nil]; omega)
  refine this.trans ?_
  rcases (by omega : k = 0 ∨ k = 1 ∨ k = 2) with rfl | rfl | rfl <;> rfl

theorem witness_OffsetOutsideBufferIsOutOfRange :
    ((req [] 0).n ≤ (req [] 0).offset ∧ (req [] 0).Ready) ∧
    ((req [0x00] 1).n ≤ (req [0x00] 1).offset ∧ (req [0x00] 1).Ready) :=
  ⟨⟨Nat.le_refl _, req_ready _ _⟩, Nat.le_refl _, req_ready _ _⟩

theorem witness_MissingOperandBytesAreTruncation :
    (∃ e, (req [0x3E] 0).RomLoaded ∧ (req [0x3E] 0).readByte (req [0x3E] 0).offset = some 0x3E ∧
      (req [0x3E] 0).rom.record ((req [0x3E] 0).rom.lookup 0x3E) = some e ∧
      (req [0x3E] 0).n < (req [0x3E] 0).offset + e.length.bytes ∧ (req [0x3E] 0).Ready ∧
      (Instr.mviA 0x00).opcode = 0x3E) ∧
    (∃ e, (req [0xC3, 0x00] 0).RomLoaded ∧ (req [0xC3, 0x00] 0).readByte (req [0xC3, 0x00] 0).offset = some 0xC3 ∧
      (req [0xC3, 0x00] 0).rom.record ((req [0xC3, 0x00] 0).rom.lookup 0xC3) = some e ∧
      (req [0xC3, 0x00] 0).n < (req [0xC3, 0x00] 0).offset + e.length.bytes ∧ (req [0xC3, 0x00] 0).Ready ∧
      (Instr.jmpC3 0x00 0x00).opcode = 0xC3) :=
  ⟨⟨_, rfl, req_byte [0x3E] 0 0 (by simp), rfl, by decide, req_ready _ _, rfl⟩,
    ⟨_, rfl, req_byte [0xC3, 0x00] 0 0 (by simp), rfl, by decide, req_ready _ _, rfl⟩⟩

/-- A step that answers each of the four outcomes. -/
theorem witness_OutcomesFollowThePriority :
    (∃ t, step (req [] 0) = .next t) ∧ (req [] 0).n ≤ (req [] 0).offset ∧
    (∃ t, step (req [0x3E] 0) = .next t) ∧ (req [0x3E] 0).readByte (req [0x3E] 0).offset = some 0x3E ∧
    (∃ t, step { req [0x0A] 0 with rom := unmapped } = .next t) ∧ unmapped.lookup 0x0A = .unk ∧
    (∃ t, step (req [0x00] 0) = .next t) ∧ Rom.contents.lookup 0x00 ≠ .unk :=
  ⟨⟨_, rfl⟩, Nat.le_refl _, ⟨_, rfl⟩, req_byte [0x3E] 0 0 (by simp), ⟨_, rfl⟩, rfl, ⟨_, rfl⟩, by decide⟩

theorem witness_EveryRequestGetsOneOutcome : (req [0x3E] 0).RomLoaded ∧ (req [0x3E] 0).Ready ∧
    (∀ i, i < (req [0x3E] 0).n →
      Memory.read (Memory.write (req [0x3E] 0).buf 1 0x55) i = Memory.read (req [0x3E] 0).buf i) ∧
    ∃ o, step (req [0x3E] 0) = .next ((req [0x3E] 0).deliver o) := by
  refine ⟨rfl, req_ready _ _, fun i hi => ?_, _, rfl⟩
  have h : i < 1 := hi
  exact Memory.read_write_other _ (by omega) _

theorem witness_EveryOtherRequestIsDecoded : ∃ e, (req [0x3E, 0xFF] 0).RomLoaded ∧ (req [0x3E, 0xFF] 0).Ready ∧
    (req [0x3E, 0xFF] 0).readByte (req [0x3E, 0xFF] 0).offset = some 0x3E ∧
    (req [0x3E, 0xFF] 0).rom.record ((req [0x3E, 0xFF] 0).rom.lookup 0x3E) = some e ∧
    (req [0x3E, 0xFF] 0).offset + e.length.bytes = (req [0x3E, 0xFF] 0).n :=
  ⟨_, rfl, req_ready _ _, req_byte [0x3E, 0xFF] 0 0 (by simp), rfl, rfl⟩

theorem witness_OnlyLongInstructionsAreTruncated : ∃ t i, (req [0xC3, 0x00] 0).RomLoaded ∧
    step (req [0xC3, 0x00] 0) = .next t ∧ t.outcome = some (.truncated i) := ⟨_, _, rfl, rfl, rfl⟩

theorem witness_SentinelAnswersUnknown : ({ req [0x0A] 0 with rom := unmapped } : State).Ready ∧
    ({ req [0x0A] 0 with rom := unmapped } : State).readByte 0 = some 0x0A ∧ unmapped.lookup 0x0A = .unk ∧
    unmapped.unk = unknownDescriptor := ⟨⟨rfl, rfl⟩, req_byte [0x0A] 0 0 (by simp), rfl, rfl⟩

theorem witness_NoOpcodeAnswersUnknown : ∃ t, (req [0x08] 0).RomLoaded ∧ step (req [0x08] 0) = .next t :=
  ⟨_, rfl, rfl⟩

/-- Two buffers that agree on the window and differ past it. -/
theorem witness_OutcomeDependsOnTheWindowAlone : ∃ s',
    (req [0x00, 0x01, 0x02, 0x04] 0).Ready ∧
    (req [0x00, 0x01, 0x02, 0x03] 0).rom = (req [0x00, 0x01, 0x02, 0x04] 0).rom ∧
    (req [0x00, 0x01, 0x02, 0x03] 0).n = (req [0x00, 0x01, 0x02, 0x04] 0).n ∧
    (req [0x00, 0x01, 0x02, 0x03] 0).offset = (req [0x00, 0x01, 0x02, 0x04] 0).offset ∧
    (∀ i, (req [0x00, 0x01, 0x02, 0x03] 0).offset ≤ i →
      i < min (req [0x00, 0x01, 0x02, 0x03] 0).n ((req [0x00, 0x01, 0x02, 0x03] 0).offset + 3) →
      (req [0x00, 0x01, 0x02, 0x03] 0).readByte i = (req [0x00, 0x01, 0x02, 0x04] 0).readByte i) ∧
    step (req [0x00, 0x01, 0x02, 0x03] 0) = .next s' := by
  refine ⟨_, req_ready _ _, rfl, rfl, rfl, fun i _ hi => ?_, rfl⟩
  have h : i < 3 := hi
  rcases (by omega : i = 0 ∨ i = 1 ∨ i = 2) with rfl | rfl | rfl <;> rfl

/-- Two buffers that agree on the bytes of a 1-byte instruction and differ in the next. -/
theorem witness_RequestsReadOnlyTheirOwnBytes : ∃ e, (req [0x00, 0x01] 0).RomLoaded ∧ (req [0x00, 0x02] 0).RomLoaded ∧
    (req [0x00, 0x01] 0).Ready ∧ (req [0x00, 0x02] 0).Ready ∧ (req [0x00, 0x01] 0).n = (req [0x00, 0x02] 0).n ∧
    (req [0x00, 0x01] 0).offset = (req [0x00, 0x02] 0).offset ∧
    (req [0x00, 0x01] 0).readByte (req [0x00, 0x01] 0).offset = some 0x00 ∧
    (req [0x00, 0x01] 0).rom.record ((req [0x00, 0x01] 0).rom.lookup 0x00) = some e ∧
    ∀ i, (req [0x00, 0x01] 0).offset ≤ i →
      i < min (req [0x00, 0x01] 0).n ((req [0x00, 0x01] 0).offset + e.length.bytes) →
      (req [0x00, 0x01] 0).readByte i = (req [0x00, 0x02] 0).readByte i := by
  refine ⟨_, rfl, rfl, req_ready _ _, req_ready _ _, rfl, rfl, rfl, rfl, fun i _ hi => ?_⟩
  have h : i < 1 := hi
  rcases (by omega : i = 0) with rfl
  rfl

theorem witness_EveryOffsetIsDecoded : (req [0x21, 0x34, 0x12] 2).RomLoaded ∧ (req [0x21, 0x34, 0x12] 2).Ready ∧
    (req [0x21, 0x34, 0x12] 2).readByte (req [0x21, 0x34, 0x12] 2).offset = some 0x12 :=
  ⟨rfl, req_ready _ _, req_byte [0x21, 0x34, 0x12] 2 2 (by simp)⟩

theorem witness_HltDoesNotStopTheBlock : (req [0x76, 0x00] 0).RomLoaded ∧ (req [0x76, 0x00] 0).Ready ∧
    (req [0x76, 0x00] 0).readByte (req [0x76, 0x00] 0).offset = some 0x76 ∧
    ∃ t, step (req [0x76, 0x00] 0) = .next t ∧ t.offset < t.n :=
  ⟨rfl, req_ready _ _, req_byte [0x76, 0x00] 0 0 (by simp), _, rfl, by decide⟩

theorem witness_SecondByteValuesDecodeAlike : (((0x08, 0x00) : Byte × Byte) ∈ secondByteValues ∧
    (req [0x08] 0).RomLoaded ∧ (req [0x08] 0).Ready ∧ Memory.wf (req [0x08] 0).buf ∧
    (req [0x08] 0).readByte (req [0x08] 0).offset = some 0x08) ∧
    ((0xFD, 0xCD) : Byte × Byte) ∈ secondByteValues :=
  ⟨⟨by simp [secondByteValues], rfl, req_ready _ _, req_wf _ _, req_byte [0x08] 0 0 (by simp)⟩,
    by simp [secondByteValues]⟩

theorem witness_ConsumedBytesLieInTheBuffer :
    (∃ t r, step (req [0xC3, 0x00, 0x10] 0) = .next t ∧ t.outcome = some (.decoded r)) ∧
    (∃ t r, step { req [0x0A] 0 with rom := unmapped } = .next t ∧ t.outcome = some (.unknown r)) :=
  ⟨⟨_, _, rfl, rfl⟩, _, _, rfl, rfl⟩

/-- A step that answers each outcome the turns of the walk tell apart. -/
theorem witness_ReferenceWalkTurns :
    (∃ t r, step (req [0x00] 0) = .next t ∧ t.outcome = some (.decoded r)) ∧
    (∃ t r, step { req [0x0A] 0 with rom := unmapped } = .next t ∧ t.outcome = some (.unknown r)) ∧
    (∃ t r, step (req [0x3E] 0) = .next t ∧ t.outcome = some (.truncated r)) ∧
    (∃ t r, step (req [] 0) = .next t ∧ t.outcome = some (.outOfRange r)) :=
  ⟨⟨_, _, rfl, rfl⟩, ⟨_, _, rfl, rfl⟩, ⟨_, _, rfl, rfl⟩, _, _, rfl, rfl⟩

theorem witness_ConcatenatedInstructionsWalkToTheEnd : State.reset.RomLoaded := rfl

theorem witness_ChangedWindowIsRefused : (req [0x00, 0x01, 0x02, 0x03] 0).requested = true ∧
    ((req [0x00, 0x01, 0x02, 0x03] 0).offset ≤ 2 ∧
      2 < min (req [0x00, 0x01, 0x02, 0x03] 0).n ((req [0x00, 0x01, 0x02, 0x03] 0).offset + 3) ∧
      Memory.read (req [0x00, 0x01, 0x02, 0x03] 0).buf 2 ≠ 0x55) ∧
    3 ≠ (req [0x00, 0x01, 0x02, 0x03] 0).n ∧
    min (req [0x00, 0x01, 0x02, 0x03] 0).n ((req [0x00, 0x01, 0x02, 0x03] 0).offset + 3) ≤ 3 ∧
    Memory.wf (req [0x00, 0x01, 0x02, 0x03] 0).buf ∧
    ∃ o, step (req [0x00, 0x01, 0x02, 0x03] 0) = .next ((req [0x00, 0x01, 0x02, 0x03] 0).deliver o) :=
  ⟨rfl, ⟨by decide, by decide, by decide⟩, by decide, by decide, req_wf _ _, _, rfl⟩

theorem witness_NoAnswerWithoutARequest : State.reset.requested = false := rfl

/-- A write of the opcode, of the last operand byte of a decoded instruction, and of the last byte of a truncated one. -/
theorem witness_WritesBetweenRequestsAreSeen :
    (Memory.wf (req [0x00, 0x76] 1).buf ∧ 1 < (req [0x00, 0x76] 1).n ∧ 1 = (req [0x00, 0x76] 1).offset ∧
      (req [0x00, 0x76] 1).RomLoaded ∧ (req [0x00, 0x76] 1).Ready) ∧
    (∃ r, Memory.wf (req [0xC3, 0x00, 0x10] 0).buf ∧ 2 < (req [0xC3, 0x00, 0x10] 0).n ∧
      (req [0xC3, 0x00, 0x10] 0).RomLoaded ∧ (req [0xC3, 0x00, 0x10] 0).Ready ∧
      answered ((req [0xC3, 0x00, 0x10] 0).writeBetween 2 0x55) = some (.decoded r) ∧
      2 = (req [0xC3, 0x00, 0x10] 0).offset + 1 + 1 ∧ 1 < r.operands.length) ∧
    (∃ i, Memory.wf (req [0xC3, 0x00] 0).buf ∧ 1 < (req [0xC3, 0x00] 0).n ∧
      (req [0xC3, 0x00] 0).RomLoaded ∧ (req [0xC3, 0x00] 0).Ready ∧
      answered ((req [0xC3, 0x00] 0).writeBetween 1 0x55) = some (.truncated i) ∧
      1 = (req [0xC3, 0x00] 0).offset + 1) :=
  ⟨⟨req_wf _ _, by decide, rfl, rfl, req_ready _ _⟩,
    ⟨_, req_wf _ _, by decide, rfl, req_ready _ _, rfl, rfl, by decide⟩,
    _, req_wf _ _, by decide, rfl, req_ready _ _, rfl, rfl⟩

/-- A state that meets the invariant and from which a step answers. -/
theorem witness_StepKeepsTheInvariant : ∃ t, (State.reset.startWalk [0x00]).Inv ∧
    step (State.reset.startWalk [0x00]) = .next t :=
  ⟨_, ⟨rfl, by decide, by decide, ⟨0, rfl⟩, fun _ _ h => nomatch h⟩, rfl⟩

theorem witness_CallerActionsKeepTheInvariant : State.reset.RomLoaded ∧ (State.reset.startWalk [0x00, 0x76]).Inv ∧
    (req [0x00, 0x76] 1).BufferOk :=
  ⟨rfl, ⟨rfl, by decide, by decide, ⟨0, rfl⟩, fun _ _ h => nomatch h⟩, by decide⟩

theorem witness_StepChangesNoRomAndNoByte : ∃ t, step (req [0x32, 0x00, 0x20] 0) = .next t := ⟨_, rfl⟩

theorem witness_ExecFrame : ∃ t, exec (.sta 0x00 0x20) (req [0x32, 0x00, 0x20] 0) = .next t := ⟨_, rfl⟩

theorem witness_EveryInstructionDecodes : (req [0xC3, 0x00, 0x10] 0).RomLoaded ∧
    (req [0xC3, 0x00, 0x10] 0).offset + (Instr.jmpC3 0x00 0x10).length = (req [0xC3, 0x00, 0x10] 0).n ∧
    (req [0xC3, 0x00, 0x10] 0).Ready ∧ ∀ k (h : k < (encode (.jmpC3 0x00 0x10)).length),
      (req [0xC3, 0x00, 0x10] 0).readByte ((req [0xC3, 0x00, 0x10] 0).offset + k) =
        some (encode (.jmpC3 0x00 0x10))[k] := by
  refine ⟨rfl, rfl, req_ready _ _, fun k h => ?_⟩
  rw [show (req [0xC3, 0x00, 0x10] 0).offset + k = k from Nat.zero_add k]
  exact req_byte [0xC3, 0x00, 0x10] 0 k h

/-- A 16-bit and an 8-bit operand, and an instruction with neither. -/
theorem witness_ImmediatesAreLittleEndian :
    (∃ t r e, (req [0x21, 0x34, 0x12] 0).RomLoaded ∧ step (req [0x21, 0x34, 0x12] 0) = .next t ∧
      t.outcome = some (.decoded r) ∧ (req [0x21, 0x34, 0x12] 0).rom.record
        ((req [0x21, 0x34, 0x12] 0).rom.lookup r.opcode) = some e ∧ e.operand = .d16 ∧ r.imm16 = some 0x1234) ∧
    (∃ t r e, (req [0xDB, 0x10] 0).RomLoaded ∧ step (req [0xDB, 0x10] 0) = .next t ∧
      t.outcome = some (.decoded r) ∧ (req [0xDB, 0x10] 0).rom.record
        ((req [0xDB, 0x10] 0).rom.lookup r.opcode) = some e ∧ e.operand = .port8) ∧
    (∃ t r e, (req [0x00] 0).RomLoaded ∧ step (req [0x00] 0) = .next t ∧ t.outcome = some (.decoded r) ∧
      (req [0x00] 0).rom.record ((req [0x00] 0).rom.lookup r.opcode) = some e ∧ e.operand = .noOperand) :=
  ⟨⟨_, _, _, rfl, rfl, rfl, rfl, rfl, rfl⟩, ⟨_, _, _, rfl, rfl, rfl, rfl, rfl⟩, _, _, _, rfl, rfl, rfl, rfl, rfl⟩

theorem witness_SubstitutionReplacesEachPlaceholder :
    subst 0x2A [0xFF, 0xFF] [.lit "(L) <= (", .word16] = some "(L) <= (#$FFFF" ∧
    subst 0x2A [0xFF, 0xFF] [.lit ")"] = some ")" := by decide

end Sys2Proof.Tests
end

/-!
PROOFS. The bytes a request reads (20_memory.md): the operand bytes after the opcode, what a step on an opcode in the
buffer answers in terms of them, and the statements of the family.
-/

namespace Sys2Proof.Machine

/-- The `k` bytes of the buffer after the offset: the operand bytes of an instruction of `k + 1` bytes that starts there
(20_memory.md R51). -/
def State.operandBytes (s : State) (k : Nat) : List Byte :=
  (List.range k).map fun j => Memory.read s.buf (s.offset + 1 + j)

@[simp] theorem State.operandBytes_length (s : State) (k : Nat) : (s.operandBytes k).length = k := by
  simp [State.operandBytes]

@[simp] theorem State.operandBytes_zero (s : State) : s.operandBytes 0 = [] := rfl

@[simp] theorem State.operandBytes_one (s : State) :
    s.operandBytes 1 = [Memory.read s.buf (s.offset + 1)] := rfl

@[simp] theorem State.operandBytes_two (s : State) :
    s.operandBytes 2 = [Memory.read s.buf (s.offset + 1), Memory.read s.buf (s.offset + 2)] := rfl

/-- The window holds the operand bytes after its first byte, where the buffer does. -/
theorem State.window_tail_take {s : State} {k : Nat} (hk : k ≤ 2) (h : s.offset + (k + 1) ≤ s.n) :
    s.window.tail.take k = s.operandBytes k := by
  refine List.ext_getElem ?_ fun j _ _ => ?_
  · simp only [List.length_take, List.length_tail, State.window_length, State.operandBytes_length]
    omega
  · have hindex : s.offset + (j + 1) = s.offset + 1 + j := by omega
    simp [State.window, State.operandBytes, hindex]

/-- Where two buffers of one length answer the same byte at an index below it, they hold the same byte. -/
theorem State.read_eq_of_readByte_eq {s t : State} {i : Nat} (hn : s.n = t.n) (hi : i < s.n)
    (h : s.readByte i = t.readByte i) : Memory.read s.buf i = Memory.read t.buf i := by
  simpa [State.readByte, hi, ← hn] using h

/-- Buffers that agree on the bytes after the offset have the same operand bytes. -/
theorem State.operandBytes_congr {s t : State} {k : Nat} (ho : s.offset = t.offset)
    (h : ∀ i, s.offset < i → i < s.offset + (k + 1) → Memory.read s.buf i = Memory.read t.buf i) :
    s.operandBytes k = t.operandBytes k := by
  refine List.map_congr_left fun j hj => ?_
  have hj := List.mem_range.mp hj
  rw [← ho]
  exact h _ (by omega) (by omega)

/-- The 16-bit operand is 256 times byte 3 plus byte 2 (20_memory.md R53). -/
theorem combine_toNat (b2 b3 : Byte) : (combine b2 b3).toNat = 256 * b3.toNat + b2.toNat := by
  rw [combine_eq_append, BitVec.toNat_append, ← Nat.shiftLeft_add_eq_or_of_lt b2.isLt, Nat.shiftLeft_eq]
  omega

/-- Every opcode has a record in loaded ROMs. -/
theorem State.RomLoaded.record_exists {s : State} (hrom : s.RomLoaded) (op : Byte) :
    ∃ e, s.rom.record (s.rom.lookup op) = some e :=
  hrom ▸ Rom.record_exists op

section OpcodeInBuffer

variable {s : State} {op : Byte} {e : Descriptor}

/-- A step on an opcode whose record's length passes the end of the buffer (40_decode_operation.md R114). -/
theorem step_truncated (hready : s.Ready) (hop : s.readByte s.offset = some op)
    (he : s.rom.record (s.rom.lookup op) = some e) (hlen : s.n < s.offset + e.length.bytes) :
    step s = .next (s.deliver (.truncated (truncInfo s.request op (s.rom.lookup op) e.length.bytes))) := by
  obtain ⟨hreq, hsteady⟩ := hready
  obtain ⟨hin, -⟩ := State.readByte_eq_some.mp hop
  obtain ⟨rest, -, hstep⟩ := step_respond hreq hsteady hop
  rw [hstep]
  exact respond_of_answer (answerOf_truncated _ he hin hlen)

/-- A step on an opcode of the loaded ROMs whose bytes all lie in the buffer answers for the opcode and its operand
bytes (40_decode_operation.md R115). -/
theorem step_respond_operandBytes (hrom : s.RomLoaded) (hready : s.Ready) (hop : s.readByte s.offset = some op)
    (he : s.rom.record (s.rom.lookup op) = some e) (hlen : s.offset + e.length.bytes ≤ s.n) :
    step s = respond op (s.operandBytes (e.length.bytes - 1)) s := by
  obtain ⟨hreq, hsteady⟩ := hready
  obtain ⟨rest, hwin, hstep⟩ := step_respond hreq hsteady hop
  have hpos := e.length.bytes_pos
  have hle := e.length.bytes_le
  have hcount : (formAt op).operandCount = e.length.bytes - 1 := by
    rw [Rom.record_length (hrom ▸ he), Nat.add_sub_cancel]
  have hrest : e.length.bytes ≤ rest.length + 1 := by
    have hwindow := s.window_length
    rw [hwin, List.length_cons] at hwindow
    omega
  have htake : rest.take (e.length.bytes - 1) = s.operandBytes (e.length.bytes - 1) := by
    rw [← State.window_tail_take (by omega) (by omega), hwin, List.tail_cons]
  rw [hstep, hcount, if_neg (by omega), htake]

/-- A step on an opcode of the loaded ROMs whose bytes all lie in the buffer delivers a record of the opcode's
descriptor, with the operand bytes after the opcode (40_decode_operation.md R117). -/
theorem step_decoded (hrom : s.RomLoaded) (hready : s.Ready) (hop : s.readByte s.offset = some op)
    (he : s.rom.record (s.rom.lookup op) = some e) (hlen : s.offset + e.length.bytes ≤ s.n) :
    ∃ text, subst op (s.operandBytes (e.length.bytes - 1)) e.operation = some text ∧
      step s = .next (s.deliver (.decoded (decodedRecord s.offset op (s.rom.lookup op) e
        (s.operandBytes (e.length.bytes - 1)) text))) := by
  obtain ⟨c, hc⟩ : ∃ c, s.rom.lookup op = .real c := hrom ▸ Rom.lookup_real op
  obtain ⟨hkind, hpieces⟩ := Rom.record_kind (hrom ▸ he)
  have hcount : (s.operandBytes (e.length.bytes - 1)).length + 1 = e.length.bytes := by
    rw [State.operandBytes_length, Nat.sub_add_cancel e.length.bytes_pos]
  have htake : (s.operandBytes (e.length.bytes - 1)).take (e.length.bytes - 1) =
      s.operandBytes (e.length.bytes - 1) := List.take_of_length_le (by simp)
  obtain ⟨text, htext⟩ := subst_some hpieces op (hcount.trans (congrArg InstrLength.bytes hkind))
  refine ⟨text, htext, ?_⟩
  have hanswer := answerOf_decoded (r := s.request) hc (hc ▸ he) hlen hcount.ge (by rwa [htake])
  rw [htake, ← hc] at hanswer
  rw [step_respond_operandBytes hrom hready hop he hlen]
  exact respond_of_answer hanswer

end OpcodeInBuffer

/-- A record that a step answers is the one of `step_decoded`, for the descriptor of the opcode it reports. -/
theorem step_next_decoded {s t : State} {r : DecodedRecord} (hrom : s.RomLoaded) (h : step s = .next t)
    (hr : t.outcome = some (.decoded r)) :
    ∃ e text, s.rom.record (s.rom.lookup r.opcode) = some e ∧
      r = decodedRecord s.offset r.opcode (s.rom.lookup r.opcode) e (s.operandBytes (e.length.bytes - 1)) text := by
  obtain ⟨hreq, hsteady, ⟨-, rfl⟩ | ⟨op, rest, -, -, hwin, -, -⟩⟩ := step_next h
  · simp at hr
  · have hin : s.offset < s.n := by
      by_contra hout
      simp [State.window_none (Nat.le_of_not_lt hout)] at hwin
    obtain ⟨e, he⟩ := hrom.record_exists (Memory.read s.buf s.offset)
    have hop := State.readByte_eq_some.mpr ⟨hin, rfl⟩
    by_cases hlen : s.offset + e.length.bytes ≤ s.n
    · obtain ⟨text, -, hstep⟩ := step_decoded hrom ⟨hreq, hsteady⟩ hop he hlen
      obtain rfl := Host.Outcome.next.inj (h.symm.trans hstep)
      obtain rfl : _ = r := by simpa using hr
      exact ⟨e, text, he, rfl⟩
    · rw [step_truncated ⟨hreq, hsteady⟩ hop he (by omega)] at h
      obtain rfl := Host.Outcome.next.inj h
      simp at hr

/-- The 16-bit operand of a kind, from as many operand bytes as the kind has (20_memory.md R53). -/
theorem imm16Of_operandBytes (k : OperandKind) (s : State) :
    imm16Of k (s.operandBytes (k.length.bytes - 1)) = if k = .d16 ∨ k = .a16 then
      some (combine (Memory.read s.buf (s.offset + 1)) (Memory.read s.buf (s.offset + 2))) else none := by
  cases k <;> simp [imm16Of, OperandKind.length, InstrLength.bytes]

/-- The 8-bit operand of a kind, from as many operand bytes as the kind has (20_memory.md R54). -/
theorem imm8Of_operandBytes (k : OperandKind) (s : State) :
    imm8Of k (s.operandBytes (k.length.bytes - 1)) =
      if k = .d8 ∨ k = .port8 then some (Memory.read s.buf (s.offset + 1)) else none := by
  cases k <;> simp [imm8Of, OperandKind.length, InstrLength.bytes]

/-- Settles O20: the answer is about the opcode at the offset, whether its bytes all lie in the buffer or not. -/
theorem everyOffsetIsDecoded : Obligations.EveryOffsetIsDecoded := by
  intro s b hrom hready hb
  obtain ⟨e, he⟩ := hrom.record_exists b
  by_cases hlen : s.offset + e.length.bytes ≤ s.n
  · obtain ⟨text, -, hstep⟩ := step_decoded hrom hready hb he hlen
    exact ⟨_, hstep, rfl, rfl⟩
  · exact ⟨_, step_truncated hready hb he (by omega), rfl, rfl⟩

/-- Settles O19: a decoded answer reads the operand bytes alone, and a truncated one the whole window, which then is
the bytes of the instruction that exist. -/
theorem requestsReadOnlyTheirOwnBytes : Obligations.RequestsReadOnlyTheirOwnBytes := by
  intro s t op e hs ht hsr htr hn ho hop he hagree
  have hrom : s.rom = t.rom := hs.trans ht.symm
  have hpos := e.length.bytes_pos
  obtain ⟨hin, -⟩ := State.readByte_eq_some.mp hop
  have hopt : t.readByte t.offset = some op := by
    rw [← ho, ← hagree s.offset (le_refl _) (by omega), hop]
  have het : t.rom.record (t.rom.lookup op) = some e := hrom ▸ he
  have hread : ∀ i, s.offset ≤ i → i < min s.n (s.offset + e.length.bytes) →
      Memory.read s.buf i = Memory.read t.buf i := fun i h1 h2 =>
    State.read_eq_of_readByte_eq hn (by omega) (hagree i h1 h2)
  by_cases hlen : s.offset + e.length.bytes ≤ s.n
  · obtain ⟨x, hx, hstep⟩ := step_decoded hs hsr hop he hlen
    obtain ⟨y, hy, hstep'⟩ := step_decoded ht htr hopt het (by omega)
    have hbytes : s.operandBytes (e.length.bytes - 1) = t.operandBytes (e.length.bytes - 1) :=
      State.operandBytes_congr ho fun i h1 h2 => hread i (by omega) (by omega)
    obtain rfl : x = y := Option.some.inj (hx.symm.trans (hbytes ▸ hy))
    exact ⟨_, _, hstep, hstep', by simp [hbytes, ho, hrom], by simp⟩
  · have hwin : s.window = t.window :=
      State.window_congr hn ho fun i h1 h2 => hread i h1 (by omega)
    have hreq : s.request = t.request := by simp [State.request, hn, ho, hwin]
    exact ⟨_, _, step_truncated hsr hop he (by omega), step_truncated htr hopt het (by omega),
      by simp [hreq, hrom], by simp⟩

/-- Settles O36: the record's kind fixes its length, so its operand bytes are those of the kind. -/
theorem immediatesAreLittleEndian : Obligations.ImmediatesAreLittleEndian := by
  intro s t r e hrom hstep hr he
  obtain ⟨e', text, he', hrec⟩ := step_next_decoded hrom hstep hr
  obtain rfl : e = e' := Option.some.inj (he.symm.trans he')
  have hkind : e.length = e.operand.length := (Rom.record_kind (hrom ▸ he)).1
  have h16 := congrArg DecodedRecord.imm16 hrec
  have h8 := congrArg DecodedRecord.imm8 hrec
  simp only [decodedRecord, hkind, imm16Of_operandBytes, imm8Of_operandBytes] at h16 h8
  refine ⟨h16, fun v hv => ?_, h8⟩
  obtain ⟨-, hv⟩ := Option.ite_none_right_eq_some.mp (h16.symm.trans hv)
  rw [← Option.some.inj hv, combine_toNat]

end Sys2Proof.Machine

/-!
PROOFS. The operand kinds of the opcodes, the text of a byte and of a 16-bit operand, and the text a template renders
to (30_encoding.md), with the statements of the family.
-/

namespace Sys2Proof.Machine

open Sys2Proof.Stated

/-! ### Substitution, piece by piece -/

/-- A template is rendered exactly when its first piece and its rest are, and its text is the two texts in that order
(30_encoding.md R91). -/
theorem subst_cons_eq_some {op : Byte} {bs : List Byte} {p : Piece} {t : Template} {x : String} :
    subst op bs (p :: t) = some x ↔
      ∃ a b, p.text op bs = some a ∧ subst op bs t = some b ∧ a ++ b = x := by
  refine ⟨fun h => ?_, fun ⟨_, _, hp, ht, hx⟩ => hx ▸ subst_cons op bs p t hp ht⟩
  cases hp : p.text op bs with
  | none => simp [subst, hp] at h
  | some a =>
    cases ht : subst op bs t with
    | none => simp [subst, hp, ht] at h
    | some b => exact ⟨a, b, rfl, rfl, by simpa [subst, hp, ht] using h⟩

/-- A template of one piece renders to the text of that piece. -/
@[simp] theorem subst_singleton (op : Byte) (bs : List Byte) (p : Piece) : subst op bs [p] = p.text op bs := by
  cases hp : p.text op bs with
  | none => simp [subst, hp]
  | some a => simp [subst, hp]

/-- Two templates in a row render to their texts in that order (30_encoding.md R91). -/
theorem subst_append {op : Byte} {bs : List Byte} {t u : Template} {x y : String} (ht : subst op bs t = some x)
    (hu : subst op bs u = some y) : subst op bs (t ++ u) = some (x ++ y) := by
  induction t generalizing x with
  | nil =>
    obtain rfl : "" = x := Option.some.inj ht
    simpa using hu
  | cons p t ih =>
    obtain ⟨a, b, hp, hb, rfl⟩ := subst_cons_eq_some.mp ht
    rw [List.cons_append, subst_cons op bs p (t ++ u) hp (ih hb), String.append_assoc]

/-- Settles O38: templates concatenate by `subst_append`, and a template of one piece is that piece's text. -/
theorem substitutionReplacesEachPlaceholder : Obligations.SubstitutionReplacesEachPlaceholder := by
  refine ⟨fun op bs t u x y => subst_append, fun op bs text => by simp, fun op b2 b3 => ?_⟩
  simp [combine]

/-! ### Operand kinds -/

/-- The length of a kind in bytes is the `length` column of its row in 30_encoding.md R74. -/
theorem OperandKind.length_bytes (k : OperandKind) : k.length.bytes = kindBytes k := by
  cases k <;> rfl

/-- The record of an opcode has the operand kind that lists the opcode (30_encoding.md R74). -/
theorem Rom.record_operand {op : Byte} {e : Descriptor}
    (he : Rom.contents.record (Rom.contents.lookup op) = some e) : e.operand = operandKind op := by
  have h : ∀ op : Byte, (Rom.contents.record (Rom.contents.lookup op)).map (fun e => e.operand) =
      some (operandKind op) := by decide
  simpa [he] using h op

/-- Settles O5: the record has the listed kind, and the ROM gives every record the length of its kind. -/
theorem operandKindsAndLengths : Obligations.OperandKindsAndLengths := by
  intro op
  obtain ⟨e, he⟩ := Rom.record_exists op
  have hoperand := Rom.record_operand he
  obtain ⟨hlength, -⟩ := Rom.record_kind he
  exact ⟨e, he, hoperand, by rw [hlength, OperandKind.length_bytes, hoperand]⟩

/-! ### Hexadecimal text -/

/-- The model's digit of four bits is the digit of their value (30_encoding.md R90). -/
theorem hexDigit_eq_digit : ∀ d : BitVec 4, hexDigit d = digit d.toNat := by decide

/-- The digit of the four bits from bit `k` up is the digit of the value's quotient by `2 ^ k`, modulo 16. -/
theorem hexDigit_extractLsb' {w : Nat} (v : BitVec w) (k : Nat) :
    hexDigit (v.extractLsb' k 4) = digit (v.toNat / 2 ^ k % 16) := by
  rw [hexDigit_eq_digit, BitVec.extractLsb'_toNat, Nat.shiftRight_eq_div_pow]

/-- `hex2` by division (30_encoding.md R90). -/
theorem hex2_eq_digits (v : Byte) : hex2 v = String.ofList [digit (v.toNat / 16), digit (v.toNat % 16)] := by
  have htop : v.toNat / 16 % 16 = v.toNat / 16 := by omega
  simp only [hex2, hexDigit_extractLsb', Nat.reducePow, htop, Nat.div_one]

/-- `hex4` by division (30_encoding.md R90). -/
theorem hex4_eq_digits (v : Word16) : hex4 v = String.ofList
    [digit (v.toNat / 4096), digit (v.toNat / 256 % 16), digit (v.toNat / 16 % 16), digit (v.toNat % 16)] := by
  have htop : v.toNat / 4096 % 16 = v.toNat / 4096 := by omega
  simp only [hex4, hexDigit_extractLsb', Nat.reducePow, htop, Nat.div_one]

/-- Settles O37: each digit is that of a quotient modulo 16; the leading one is below 16 already. -/
theorem hexadecimalText : Obligations.HexadecimalText :=
  ⟨hex2_eq_digits, hex4_eq_digits, by decide, by decide⟩

end Sys2Proof.Machine

/-!
PROOFS. The decode of one request (40_decode_operation.md): what a meaning answers for an instruction whose bytes lie in
the buffer, what the pseudocode of R110 answers in each case, and the statements of the family.
-/

namespace Sys2Proof.Machine

open Sys2Proof.Stated

/-! ### Offsets outside the buffer -/

/-- Settles O10: the range check is the first of a step and of every meaning. -/
theorem offsetOutsideBufferIsOutOfRange : Obligations.OffsetOutsideBufferIsOutOfRange := by
  intro s hout
  refine ⟨fun ⟨hreq, hsteady⟩ => step_no_byte hreq hsteady hout, fun i => ?_, rfl, rfl⟩
  rw [exec_eq_respond]
  exact respond_of_answer (answerOf_outOfRange _ _ _ hout)

/-! ### Missing operand bytes -/

/-- The window holds all the bytes left, where they are at most three. -/
theorem State.window_eq_bytesLeft {s : State} (h : s.n ≤ s.offset + 3) : s.window = bytesLeft s := by
  have havail : s.avail = s.n - s.offset := by
    unfold State.avail
    omega
  rw [State.window, havail, bytesLeft]

/-- The record of a truncated instruction, with the bytes left written out (10_state.md R30). -/
theorem truncInfo_request {s : State} (h : s.n ≤ s.offset + 3) (op : Byte) (d : DescId) (required : Nat) :
    truncInfo s.request op d required = ⟨s.offset, op, d, required, s.n - s.offset, bytesLeft s⟩ := by
  rw [← State.window_eq_bytesLeft h]
  rfl

/-- Settles O11: a step and every meaning of the opcode deliver the answer of the bounds check. -/
theorem missingOperandBytesAreTruncation : Obligations.MissingOperandBytesAreTruncation := by
  intro s op e _ hop he hlen
  have hle := e.length.bytes_le
  obtain ⟨hin, -⟩ := State.readByte_eq_some.mp hop
  rw [← truncInfo_request (by omega)]
  refine ⟨fun hready => step_truncated hready hop he hlen, fun i hi => ?_, by omega, by omega, rfl, rfl⟩
  rw [exec_eq_respond, hi]
  exact respond_of_answer (answerOf_truncated _ he hin hlen)

/-! ### Instructions whose bytes lie in the buffer -/

/-- The answer for an opcode of the loaded ROMs and as many bytes as its record's length calls for is a record of its
descriptor (40_decode_operation.md R117). -/
theorem respond_decoded {s : State} {op : Byte} {e : Descriptor} {bs : List Byte} (hrom : s.RomLoaded)
    (he : s.rom.record (s.rom.lookup op) = some e) (hlen : s.offset + e.length.bytes ≤ s.n)
    (hbs : bs.length + 1 = e.length.bytes) :
    ∃ text, subst op bs e.operation = some text ∧ respond op bs s =
      .next (s.deliver (.decoded (decodedRecord s.offset op (s.rom.lookup op) e bs text))) := by
  obtain ⟨c, hc⟩ : ∃ c, s.rom.lookup op = .real c := hrom ▸ Rom.lookup_real op
  obtain ⟨hkind, hpieces⟩ := Rom.record_kind (hrom ▸ he)
  obtain ⟨text, htext⟩ := subst_some hpieces op (hbs.trans (congrArg InstrLength.bytes hkind))
  have htake : bs.take (e.length.bytes - 1) = bs := List.take_of_length_le (by omega)
  have hanswer := answerOf_decoded (r := s.request) hc (hc ▸ he) hlen hbs.ge (by rwa [htake])
  rw [htake, ← hc] at hanswer
  exact ⟨text, htext, respond_of_answer hanswer⟩

/-- The 8-bit operand of a kind is byte 2, where the kind has one (10_state.md R27). -/
theorem imm8Of_eq_ite (k : OperandKind) (bs : List Byte) :
    imm8Of k bs = if k = .d8 ∨ k = .port8 then bs[0]? else none := by
  cases k <;> cases bs <;> rfl

/-- The 16-bit operand of a kind is byte 3 over byte 2, where the kind has one (10_state.md R27). -/
theorem imm16Of_eq_ite {k : OperandKind} {bs : List Byte} (hbs : bs.length + 1 = k.length.bytes) :
    imm16Of k bs = if k = .d16 ∨ k = .a16 then some (combine (bs.getD 0 0) (bs.getD 1 0)) else none := by
  match k, bs with
  | .noOperand, _ | .d8, _ | .port8, _ => rfl
  | .d16, _ :: _ :: _ | .a16, _ :: _ :: _ => rfl
  | .d16, [] | .d16, [_] | .a16, [] | .a16, [_] => simp [OperandKind.length, InstrLength.bytes] at hbs

/-- The fields of a decoded record, with the operands written out (10_state.md R27). -/
theorem decodedRecord_eq {e : Descriptor} {bs : List Byte} (hbs : bs.length + 1 = e.operand.length.bytes)
    (address : Nat) (op : Byte) (d : DescId) (text : String) :
    decodedRecord address op d e bs text =
      ⟨address, op, d, e.mnemonic, text, e.length.bytes, e.length.bytes, bs,
        if e.operand = .d8 ∨ e.operand = .port8 then bs[0]? else none,
        if e.operand = .d16 ∨ e.operand = .a16 then some (combine (bs.getD 0 0) (bs.getD 1 0)) else none,
        e.flags⟩ := by
  rw [decodedRecord, imm8Of_eq_ite, imm16Of_eq_ite hbs]

/-- Where a buffer holds an instruction's bytes at the offset, its operand bytes are the instruction's
(20_memory.md R51). -/
theorem State.operandBytes_of_encode {s : State} {i : Instr}
    (h : ∀ k (hk : k < (encode i).length), s.readByte (s.offset + k) = some (encode i)[k]) :
    s.operandBytes i.operands.length = i.operands := by
  refine List.ext_getElem (by simp) fun j _ hj => ?_
  obtain ⟨-, hread⟩ := State.readByte_eq_some.mp (h (j + 1) (by simpa [encode] using hj))
  have hindex : s.offset + (j + 1) = s.offset + 1 + j := by omega
  simpa [State.operandBytes, encode, hindex] using hread

/-- Settles O35: a meaning answers for the instruction's own operand bytes, and a step on the
instruction's bytes for the same. -/
theorem everyInstructionDecodes : Obligations.EveryInstructionDecodes := by
  intro i s hrom hlen
  obtain ⟨e, he⟩ := Rom.record_exists i.opcode
  obtain ⟨hkind, -⟩ := Rom.record_kind he
  have hbytes : e.length.bytes = i.length := by rw [Rom.record_length he, ← operands_length, Instr.length]
  have hlen' : s.offset + e.length.bytes ≤ s.n := by rwa [hbytes]
  have he' : s.rom.record (s.rom.lookup i.opcode) = some e := hrom ▸ he
  obtain ⟨text, htext, hrespond⟩ := respond_decoded hrom he' hlen' hbytes.symm
  rw [decodedRecord_eq (by rw [← hkind, hbytes, Instr.length]), hbytes, hrom, ← exec_eq_respond] at hrespond
  refine ⟨e, text, he, htext, hbytes, hrespond, fun hready hencode => ?_⟩
  have hop : s.readByte s.offset = some i.opcode := hencode 0 (by simp [encode])
  rw [step_respond_operandBytes hrom hready hop he' hlen', hbytes, Instr.length, Nat.add_sub_cancel,
    State.operandBytes_of_encode hencode, ← exec_eq_respond]
  exact hrespond

/-! ### The pseudocode of R110 -/

section Reference

variable {s : State} {op : Byte} {e : Descriptor} {memRead : Nat → Byte}

/-- The pseudocode's range check (40_decode_operation.md R111) reads no byte. -/
theorem referenceDecode_outOfRange (rom : Rom) (memRead : Nat → Byte) {n offset : Nat} (h : n ≤ offset) :
    referenceDecode rom memRead n offset = some (.outOfRange ⟨offset, n⟩) := by
  rw [referenceDecode, if_pos (Nat.not_lt.mpr h)]

variable (hagree : ∀ i, i < s.n → memRead i = Memory.read s.buf i)
include hagree

/-- The pseudocode's bounds check (40_decode_operation.md R114) answers the record of the bytes left. -/
theorem referenceDecode_truncated (hop : s.readByte s.offset = some op)
    (he : s.rom.record (s.rom.lookup op) = some e) (hlen : s.n < s.offset + e.length.bytes) :
    referenceDecode s.rom memRead s.n s.offset =
      some (.truncated (truncInfo s.request op (s.rom.lookup op) e.length.bytes)) := by
  have hle := e.length.bytes_le
  obtain ⟨hin, hread⟩ := State.readByte_eq_some.mp hop
  have hleft : (List.range (s.n - s.offset)).map (fun k => memRead (s.offset + k)) = bytesLeft s :=
    List.map_congr_left fun k hk => hagree _ (by have := List.mem_range.mp hk; omega)
  rw [truncInfo_request (by omega)]
  simp [referenceDecode, hin, hagree _ hin, hread, he, hlen, hleft]

/-- The pseudocode's result for a real descriptor (40_decode_operation.md R117): a record's kind fixes its length, so
only the operand bytes of that length are read. -/
theorem referenceDecode_decoded {text : String} (hrom : s.RomLoaded) (hop : s.readByte s.offset = some op)
    (he : s.rom.record (s.rom.lookup op) = some e) (hlen : s.offset + e.length.bytes ≤ s.n)
    (htext : subst op (s.operandBytes (e.length.bytes - 1)) e.operation = some text) :
    referenceDecode s.rom memRead s.n s.offset = some (.decoded (decodedRecord s.offset op (s.rom.lookup op) e
      (s.operandBytes (e.length.bytes - 1)) text)) := by
  obtain ⟨c, hc⟩ : ∃ c, s.rom.lookup op = .real c := hrom ▸ Rom.lookup_real op
  obtain ⟨hkind, -⟩ := Rom.record_kind (hrom ▸ he)
  obtain ⟨hin, hread⟩ := State.readByte_eq_some.mp hop
  have hbyte2 : 2 ≤ e.length.bytes → memRead (s.offset + 1) = Memory.read s.buf (s.offset + 1) :=
    fun _ => hagree _ (by omega)
  have hbyte3 : 3 ≤ e.length.bytes → memRead (s.offset + 2) = Memory.read s.buf (s.offset + 2) :=
    fun _ => hagree _ (by omega)
  rw [hc] at he
  simp only [referenceDecode, hin, not_true, if_false, hagree _ hin, hread, hc, he, Nat.not_lt.mpr hlen]
  -- each kind fixes how many bytes the pseudocode reads, which `hbyte2` and `hbyte3` say are the buffer's
  cases hoperand : e.operand <;>
    simp_all [OperandKind.length, InstrLength.bytes, decodedRecord, imm8Of, imm16Of, combine]

end Reference

/-- Settles O8: out of range, too few bytes left, or a whole instruction, a step and the pseudocode answer the same. -/
theorem stepAnswersTheReferenceDecode : Obligations.StepAnswersTheReferenceDecode := by
  intro s hrom hready
  suffices h : ∃ o, step s = .next (s.deliver o) ∧
      ∀ memRead : Nat → Byte, (∀ i, i < s.n → memRead i = Memory.read s.buf i) →
        referenceDecode s.rom memRead s.n s.offset = some o by
    obtain ⟨o, hstep, href⟩ := h
    exact ⟨o, hstep, href _ fun _ _ => rfl, href⟩
  by_cases hin : s.offset < s.n
  · obtain ⟨e, he⟩ := hrom.record_exists (Memory.read s.buf s.offset)
    have hop := State.readByte_eq_some.mpr ⟨hin, rfl⟩
    by_cases hlen : s.offset + e.length.bytes ≤ s.n
    · obtain ⟨text, htext, hstep⟩ := step_decoded hrom hready hop he hlen
      exact ⟨_, hstep, fun _ hagree => referenceDecode_decoded hagree hrom hop he hlen htext⟩
    · have hlen := Nat.lt_of_not_le hlen
      exact ⟨_, step_truncated hready hop he hlen, fun _ hagree => referenceDecode_truncated hagree hop he hlen⟩
  · have hout := Nat.le_of_not_lt hin
    exact ⟨_, step_no_byte hready.1 hready.2 hout, fun memRead _ => referenceDecode_outOfRange _ memRead hout⟩

/-- Settles O13: the state with the other buffer answers the pseudocode's outcome too, and the pseudocode reads nothing
at or past `N`. -/
theorem everyRequestGetsOneOutcome : Obligations.EveryRequestGetsOneOutcome := by
  intro s hrom hready
  obtain ⟨o, hstep, -, href⟩ := stepAnswersTheReferenceDecode s hrom hready
  have hunique : ∀ o', step s = .next (s.deliver o') → o' = o := fun o' h =>
    State.deliver_inj (Host.Outcome.next.inj (h.symm.trans hstep))
  refine ⟨⟨o, hstep, hunique⟩, fun m hm o' h => ?_⟩
  obtain ⟨p, hstep', href', -⟩ := stepAnswersTheReferenceDecode { s with buf := m } hrom hready
  obtain rfl : p = o' := by
    rw [hunique o' h]
    exact Option.some.inj (href'.symm.trans (href _ hm))
  exact hstep'

end Sys2Proof.Machine

/-!
PROOFS. The rule of one opcode, whole: what a request for it answers, from the opcode's row of the ROMs and the text its
template renders to; then the statements of the data transfer group (41_data_transfer.md).
-/

namespace Sys2Proof.Machine

open Sys2Proof.Stated

/-- The row of an opcode in the ROMs: the canonical opcode it is mapped to, and the record filed under that one
(10_state.md R21, R22). -/
abbrev Rom.HasRow (r : Rom) (op canon : Byte) (e : Descriptor) : Prop :=
  r.lookup op = .real canon ∧ r.record (.real canon) = some e

/-- The record of a row is the one its opcode looks up. -/
theorem Rom.HasRow.record_lookup {r : Rom} {op canon : Byte} {e : Descriptor} (h : r.HasRow op canon e) :
    r.record (r.lookup op) = some e := by
  rw [h.1, h.2]

/-- An instruction of a row's opcode has the operand bytes that the record's length calls for (30_encoding.md R70). -/
theorem Rom.HasRow.operands_length {op canon : Byte} {e : Descriptor} {i : Instr}
    (h : Rom.contents.HasRow op canon e) (hi : i.opcode = op) : i.operands.length + 1 = e.length.bytes := by
  rw [Machine.operands_length, hi, Rom.record_length h.record_lookup]

/-! ### The answer for a row of the ROMs -/

section Row

variable {s : State} {op canon : Byte} {e : Descriptor} {text : String}

/-- The answer for an opcode of a row, with as many operand bytes as the record's length calls for
(40_decode_operation.md R117). -/
theorem respond_row {bs : List Byte} (hrom : s.RomLoaded) (hrow : Rom.contents.HasRow op canon e)
    (hlen : s.offset + e.length.bytes ≤ s.n) (hbs : bs.length + 1 = e.length.bytes)
    (htext : subst op bs e.operation = some text) :
    respond op bs s = .next (s.deliver (.decoded (decodedRecord s.offset op (.real canon) e bs text))) := by
  rw [← hrom] at hrow
  obtain ⟨text', htext', hrespond⟩ := respond_decoded hrom hrow.record_lookup hlen hbs
  obtain rfl : text = text' := Option.some.inj (htext.symm.trans htext')
  rw [hrespond, hrow.1]

/-- A meaning of the row's opcode, for an instruction whose bytes lie in the buffer. -/
theorem exec_row {i : Instr} (hrom : s.RomLoaded) (hrow : Rom.contents.HasRow op canon e) (hi : i.opcode = op)
    (hlen : s.offset + e.length.bytes ≤ s.n) (htext : subst op i.operands e.operation = some text) :
    exec i s = .next (s.deliver (.decoded (decodedRecord s.offset op (.real canon) e i.operands text))) := by
  rw [exec_eq_respond, hi, respond_row hrom hrow hlen (hrow.operands_length hi) htext]

/-- A step on the row's opcode, where the instruction's bytes lie in the buffer. -/
theorem step_row (hrom : s.RomLoaded) (hready : s.Ready) (hop : s.readByte s.offset = some op)
    (hrow : Rom.contents.HasRow op canon e) (hlen : s.offset + e.length.bytes ≤ s.n)
    (htext : subst op (s.operandBytes (e.length.bytes - 1)) e.operation = some text) :
    step s = .next (s.deliver (.decoded (decodedRecord s.offset op (.real canon) e
      (s.operandBytes (e.length.bytes - 1)) text))) := by
  have hbs : (s.operandBytes (e.length.bytes - 1)).length + 1 = e.length.bytes := by
    rw [State.operandBytes_length, Nat.sub_add_cancel e.length.bytes_pos]
  rw [step_respond_operandBytes hrom hready hop (hrom ▸ hrow.record_lookup) hlen,
    respond_row hrom hrow hlen hbs htext]

/-- A step on the row's opcode, where the window holds fewer bytes than the record's length: the buffer ends with them,
and `present` lists them (40_decode_operation.md R114). -/
theorem step_row_truncated {bs : List Byte} (hrom : s.RomLoaded) (hready : s.Ready)
    (hop : s.readByte s.offset = some op) (hrow : Rom.contents.HasRow op canon e) (hwin : s.window = op :: bs)
    (hshort : bs.length + 1 < e.length.bytes) :
    step s = .next (s.deliver (.truncated
      ⟨s.offset, op, .real canon, e.length.bytes, bs.length + 1, op :: bs⟩)) := by
  have hleft : s.n - s.offset = bs.length + 1 := by
    have hle := e.length.bytes_le
    have hlength := s.window_length
    rw [hwin, List.length_cons] at hlength
    omega
  rw [← hrom] at hrow
  rw [step_truncated hready hop hrow.record_lookup (by omega), hrow.1, ← hwin, ← hleft]
  rfl

end Row

/-! ### The rule of an opcode, by its length -/

section Rule

variable {op canon : Byte} {mnemonic : String} {template : Template} {k : OperandKind} {flags : FlagSet}

/-- A row of length 1, whose template holds no placeholder (30_encoding.md R71, R88). -/
theorem answersOneByte_of_row {text : String}
    (hrow : Rom.contents.HasRow op canon ⟨mnemonic, [.lit text], .one, .noOperand, flags⟩) :
    AnswersOneByte op canon mnemonic text flags := by
  intro s hrom
  have htext : subst op [] [.lit text] = some text := subst_singleton op [] (.lit text)
  refine ⟨fun hready hout => step_no_byte hready.1 hready.2 hout, fun hready hop => ?_, fun i hi hin => ?_⟩
  · obtain ⟨hin, -⟩ := State.readByte_eq_some.mp hop
    exact step_row hrom hready hop hrow hin htext
  · have hnone : i.operands = [] := List.length_eq_zero_iff.mp (Nat.succ.inj (hrow.operands_length hi))
    rw [exec_row hrom hrow hi hin (hnone ▸ htext), hnone]
    rfl

/-- The record of an instruction of length 2: byte 2 is the 8-bit operand (10_state.md R27). -/
theorem decodedRecord_two_bytes (hk : k.length = .two) (address : Nat) (d : DescId) (b2 : Byte) (text : String) :
    decodedRecord address op d ⟨mnemonic, template, .two, k, flags⟩ [b2] text =
      ⟨address, op, d, mnemonic, text, 2, 2, [b2], some b2, none, flags⟩ :=
  match k, hk with
  | .d8, _ | .port8, _ => rfl

/-- The record of an instruction of length 3: byte 3 over byte 2 is the 16-bit operand (10_state.md R27). -/
theorem decodedRecord_three_bytes (hk : k.length = .three) (address : Nat) (d : DescId) (b2 b3 : Byte)
    (text : String) :
    decodedRecord address op d ⟨mnemonic, template, .three, k, flags⟩ [b2, b3] text =
      ⟨address, op, d, mnemonic, text, 3, 3, [b2, b3], none, some (b3 ++ b2), flags⟩ := by
  rw [← combine_eq_append]
  match k, hk with
  | .d16, _ | .a16, _ => rfl

/-- A row of length 2 (30_encoding.md R72). -/
theorem answersTwoBytes_of_row {text : Byte → String} (hk : k.length = .two)
    (hrow : Rom.contents.HasRow op canon ⟨mnemonic, template, .two, k, flags⟩)
    (htext : ∀ b2, subst op [b2] template = some (text b2)) : AnswersTwoBytes op canon mnemonic text flags := by
  intro s hrom
  refine ⟨fun hready hout => step_no_byte hready.1 hready.2 hout, fun hready hop hn => ?_,
    fun b2 hready hop hb2 => ?_, fun i b2 hi hoperands hlen => ?_⟩
  · obtain ⟨-, hread⟩ := State.readByte_eq_some.mp hop
    have hwin : s.window = [op] := by rw [State.window_one hn, hread]
    exact step_row_truncated hrom hready hop hrow hwin (by simp [InstrLength.bytes])
  · obtain ⟨hin, hread2⟩ := State.readByte_eq_some.mp hb2
    have hbytes : s.operandBytes 1 = [b2] := by rw [State.operandBytes_one, hread2]
    rw [← decodedRecord_two_bytes hk, ← hbytes]
    exact step_row hrom hready hop hrow hin (hbytes.symm ▸ htext b2)
  · rw [← decodedRecord_two_bytes hk, ← hoperands]
    exact exec_row hrom hrow hi hlen (hoperands.symm ▸ htext b2)

/-- A row of length 3 (30_encoding.md R73). -/
theorem answersThreeBytes_of_row {text : Byte → Byte → String} (hk : k.length = .three)
    (hrow : Rom.contents.HasRow op canon ⟨mnemonic, template, .three, k, flags⟩)
    (htext : ∀ b2 b3, subst op [b2, b3] template = some (text b2 b3)) :
    AnswersThreeBytes op canon mnemonic text flags := by
  intro s hrom
  refine ⟨fun hready hout => step_no_byte hready.1 hready.2 hout, fun hready hop hn => ?_,
    fun b2 hready hop hb2 hn => ?_, fun b2 b3 hready hop hb2 hb3 => ?_, fun i b2 b3 hi hoperands hlen => ?_⟩
  · obtain ⟨-, hread⟩ := State.readByte_eq_some.mp hop
    have hwin : s.window = [op] := by rw [State.window_one hn, hread]
    exact step_row_truncated hrom hready hop hrow hwin (by simp [InstrLength.bytes])
  · obtain ⟨-, hread⟩ := State.readByte_eq_some.mp hop
    obtain ⟨-, hread2⟩ := State.readByte_eq_some.mp hb2
    have hwin : s.window = [op, b2] := by rw [State.window_two hn, hread, hread2]
    exact step_row_truncated hrom hready hop hrow hwin (by simp [InstrLength.bytes])
  · obtain ⟨-, hread2⟩ := State.readByte_eq_some.mp hb2
    obtain ⟨hin, hread3⟩ := State.readByte_eq_some.mp hb3
    have hbytes : s.operandBytes 2 = [b2, b3] := by rw [State.operandBytes_two, hread2, hread3]
    rw [← decodedRecord_three_bytes hk, ← hbytes]
    exact step_row hrom hready hop hrow hin (hbytes.symm ▸ htext b2 b3)
  · rw [← decodedRecord_three_bytes hk, ← hoperands]
    exact exec_row hrom hrow hi hlen (hoperands.symm ▸ htext b2 b3)

end Rule

/-! ### The rows of the data transfer group -/

/-- MOV's rows, for every pair of register codes but M, M (41_data_transfer.md R140 to R142). -/
theorem Rom.mov_row : ∀ d r : BitVec 3, ¬ (d = 6 ∧ r = 6) →
    Rom.contents.HasRow (0b01#2 ++ d ++ r) (0b01#2 ++ d ++ r)
      ⟨"MOV " ++ registerName d ++ ", " ++ registerName r, [.lit (registerText d ++ " <= " ++ registerText r)],
        .one, .noOperand, .empty⟩ := by
  decide

/-- MVI's rows, for every register code (41_data_transfer.md R143, R144). -/
theorem Rom.mvi_row : ∀ d : BitVec 3,
    Rom.contents.HasRow (0b00#2 ++ d ++ 0b110#3) (0b00#2 ++ d ++ 0b110#3)
      ⟨"MVI " ++ registerName d ++ ", d8", [.lit (registerText d ++ " <= "), .byte2], .two, .d8, .empty⟩ := by
  decide

/-- LXI's rows, for every pair with named halves: the template gives byte 3 to the high register
(41_data_transfer.md R145). -/
theorem Rom.lxi_row : ∀ rp : BitVec 2, rp ≠ 3 →
    Rom.contents.HasRow (0b00#2 ++ rp ++ 0b0001#4) (0b00#2 ++ rp ++ 0b0001#4)
      ⟨"LXI " ++ pairName rp ++ ", d16",
        [.lit (pairHigh rp ++ " <= "), .byte3, .lit (", " ++ pairLow rp ++ " <= "), .byte2],
        .three, .d16, .empty⟩ := by
  decide

/-- Settles O39: every form is a row of length 1. -/
theorem movRows : Obligations.MovRows := fun d r h => answersOneByte_of_row (Rom.mov_row d r h)

/-- Settles O40: every form is a row of length 2, whose template ends with byte 2. -/
theorem mviRows : Obligations.MviRows := fun d =>
  answersTwoBytes_of_row rfl (Rom.mvi_row d) fun b2 => by
    simp [subst_cons_eq_some, lit2, String.append_assoc]

/-- Settles O41: the template of a pair names byte 3 before byte 2, and that of SP the 16-bit operand. -/
theorem lxiRows : Obligations.LxiRows := by
  refine ⟨fun rp h => answersThreeBytes_of_row rfl (Rom.lxi_row rp h) fun b2 b3 => ?_,
    answersThreeBytes_of_row rfl ⟨rfl, rfl⟩ fun b2 b3 => ?_⟩
  · simp [subst_cons_eq_some, lit2, String.append_assoc]
  · simp [subst_cons_eq_some, lit4, combine_eq_append]

/-- Settles O42: four rows of length 3; each placeholder of the address is the same 16-bit operand, and the literal text
after it holds the plus one. -/
theorem directAddressRows : Obligations.DirectAddressRows := by
  refine ⟨answersThreeBytes_of_row rfl ⟨rfl, rfl⟩ ?_, answersThreeBytes_of_row rfl ⟨rfl, rfl⟩ ?_,
    answersThreeBytes_of_row rfl ⟨rfl, rfl⟩ ?_, answersThreeBytes_of_row rfl ⟨rfl, rfl⟩ ?_⟩ <;>
    intro b2 b3 <;> simp [subst_cons_eq_some, lit4, combine_eq_append, String.append_assoc]

/-- Settles O43: five rows of length 1. -/
theorem indirectAndExchangeRows : Obligations.IndirectAndExchangeRows :=
  ⟨answersOneByte_of_row ⟨rfl, rfl⟩, answersOneByte_of_row ⟨rfl, rfl⟩, answersOneByte_of_row ⟨rfl, rfl⟩,
    answersOneByte_of_row ⟨rfl, rfl⟩, answersOneByte_of_row ⟨rfl, rfl⟩⟩

end Sys2Proof.Machine

/-!
PROOFS. The statements of the arithmetic group (42_arithmetic.md), from the rows its opcodes have in the ROMs.
-/

namespace Sys2Proof.Machine

open Sys2Proof.Stated

/-! ### The rows of the arithmetic group -/

/-- ADD's rows, for every register code (42_arithmetic.md R160, R161). -/
theorem Rom.add_row : ∀ r : BitVec 3,
    Rom.contents.HasRow (0b10000#5 ++ r) (0b10000#5 ++ r)
      ⟨"ADD " ++ registerName r, [.lit ("(A) <= (A) + " ++ registerText r)], .one, .noOperand, .all⟩ := by
  decide

/-- ADC's rows, for every register code (42_arithmetic.md R163, R164). -/
theorem Rom.adc_row : ∀ r : BitVec 3,
    Rom.contents.HasRow (0b10001#5 ++ r) (0b10001#5 ++ r)
      ⟨"ADC " ++ registerName r, [.lit ("(A) <= (A) + " ++ registerText r ++ " + (CY)")],
        .one, .noOperand, .all⟩ := by
  decide

/-- SUB's rows, for every register code (42_arithmetic.md R166, R167). -/
theorem Rom.sub_row : ∀ r : BitVec 3,
    Rom.contents.HasRow (0b10010#5 ++ r) (0b10010#5 ++ r)
      ⟨"SUB " ++ registerName r, [.lit ("(A) <= (A) - " ++ registerText r)], .one, .noOperand, .all⟩ := by
  decide

/-- SBB's rows, for every register code (42_arithmetic.md R169, R170). -/
theorem Rom.sbb_row : ∀ r : BitVec 3,
    Rom.contents.HasRow (0b10011#5 ++ r) (0b10011#5 ++ r)
      ⟨"SBB " ++ registerName r, [.lit ("(A) <= (A) - " ++ registerText r ++ " - (CY)")],
        .one, .noOperand, .all⟩ := by
  decide

/-- INR's rows, for every register code: the flags are all but CY (42_arithmetic.md R172, R173). -/
theorem Rom.inr_row : ∀ d : BitVec 3,
    Rom.contents.HasRow (0b00#2 ++ d ++ 0b100#3) (0b00#2 ++ d ++ 0b100#3)
      ⟨"INR " ++ registerName d, [.lit (registerText d ++ " <= " ++ registerText d ++ " + 1")],
        .one, .noOperand, .allButCarry⟩ := by
  decide

/-- DCR's rows, for every register code: the flags are all but CY (42_arithmetic.md R174, R175). -/
theorem Rom.dcr_row : ∀ d : BitVec 3,
    Rom.contents.HasRow (0b00#2 ++ d ++ 0b101#3) (0b00#2 ++ d ++ 0b101#3)
      ⟨"DCR " ++ registerName d, [.lit (registerText d ++ " <= " ++ registerText d ++ " - 1")],
        .one, .noOperand, .allButCarry⟩ := by
  decide

/-- INX's rows, for every pair, SP being the fourth (42_arithmetic.md R176, R177). -/
theorem Rom.inx_row : ∀ rp : BitVec 2,
    Rom.contents.HasRow (0b00#2 ++ rp ++ 0b0011#4) (0b00#2 ++ rp ++ 0b0011#4)
      ⟨"INX " ++ pairName rp, [.lit (pairText rp ++ " <= " ++ pairText rp ++ " + 1")],
        .one, .noOperand, .empty⟩ := by
  decide

/-- DCX's rows, for every pair, SP being the fourth (42_arithmetic.md R178, R179). -/
theorem Rom.dcx_row : ∀ rp : BitVec 2,
    Rom.contents.HasRow (0b00#2 ++ rp ++ 0b1011#4) (0b00#2 ++ rp ++ 0b1011#4)
      ⟨"DCX " ++ pairName rp, [.lit (pairText rp ++ " <= " ++ pairText rp ++ " - 1")],
        .one, .noOperand, .empty⟩ := by
  decide

/-- DAD's rows, for every pair, SP being the fourth: the one flag is CY (42_arithmetic.md R180, R181). -/
theorem Rom.dad_row : ∀ rp : BitVec 2,
    Rom.contents.HasRow (0b00#2 ++ rp ++ 0b1001#4) (0b00#2 ++ rp ++ 0b1001#4)
      ⟨"DAD " ++ pairName rp, [.lit ("(H) (L) <= (H) (L) + " ++ pairText rp)], .one, .noOperand, .carry⟩ := by
  decide

/-- Settles O44: every form is a row of length 1, memory being the register code 6. -/
theorem addSubtractRows : Obligations.AddSubtractRows := fun r =>
  ⟨answersOneByte_of_row (Rom.add_row r), answersOneByte_of_row (Rom.adc_row r),
    answersOneByte_of_row (Rom.sub_row r), answersOneByte_of_row (Rom.sbb_row r)⟩

/-- Settles O45: four rows of length 2; the template of ACI and of SBI goes on after byte 2 with the carry. -/
theorem addSubtractImmediateRows : Obligations.AddSubtractImmediateRows := by
  refine ⟨answersTwoBytes_of_row rfl ⟨rfl, rfl⟩ ?_, answersTwoBytes_of_row rfl ⟨rfl, rfl⟩ ?_,
    answersTwoBytes_of_row rfl ⟨rfl, rfl⟩ ?_, answersTwoBytes_of_row rfl ⟨rfl, rfl⟩ ?_⟩ <;>
    intro b2 <;> simp [subst_cons_eq_some, lit2, String.append_assoc]

/-- Settles O46: every form is a row of length 1, memory being the register code 6. -/
theorem incrementDecrementRows : Obligations.IncrementDecrementRows := fun d =>
  ⟨answersOneByte_of_row (Rom.inr_row d), answersOneByte_of_row (Rom.dcr_row d)⟩

/-- Settles O47: every form is a row of length 1. -/
theorem pairArithmeticRows : Obligations.PairArithmeticRows :=
  ⟨fun rp => ⟨answersOneByte_of_row (Rom.inx_row rp), answersOneByte_of_row (Rom.dcx_row rp),
    answersOneByte_of_row (Rom.dad_row rp)⟩, answersOneByte_of_row ⟨rfl, rfl⟩⟩

end Sys2Proof.Machine

/-!
PROOFS. The statements of the logical group (43_logical.md), from the rows its opcodes have in the ROMs.
-/

namespace Sys2Proof.Machine

open Sys2Proof.Stated

/-! ### The rows of the logical group -/

/-- ANA's rows, for every register code (43_logical.md R190, R191). -/
theorem Rom.ana_row : ∀ r : BitVec 3,
    Rom.contents.HasRow (0b10100#5 ++ r) (0b10100#5 ++ r)
      ⟨"ANA " ++ registerName r, [.lit ("(A) <= (A) & " ++ registerText r)], .one, .noOperand, .all⟩ := by
  decide

/-- XRA's rows, for every register code (43_logical.md R193, R194). -/
theorem Rom.xra_row : ∀ r : BitVec 3,
    Rom.contents.HasRow (0b10101#5 ++ r) (0b10101#5 ++ r)
      ⟨"XRA " ++ registerName r, [.lit ("(A) <= (A) ^ " ++ registerText r)], .one, .noOperand, .all⟩ := by
  decide

/-- ORA's rows, for every register code (43_logical.md R196, R197). -/
theorem Rom.ora_row : ∀ r : BitVec 3,
    Rom.contents.HasRow (0b10110#5 ++ r) (0b10110#5 ++ r)
      ⟨"ORA " ++ registerName r, [.lit ("(A) <= (A) | " ++ registerText r)], .one, .noOperand, .all⟩ := by
  decide

/-- CMP's rows, for every register code: the text assigns no register (43_logical.md R199, R200). -/
theorem Rom.cmp_row : ∀ r : BitVec 3,
    Rom.contents.HasRow (0b10111#5 ++ r) (0b10111#5 ++ r)
      ⟨"CMP " ++ registerName r, [.lit ("(A) - " ++ registerText r)], .one, .noOperand, .all⟩ := by
  decide

/-- Settles O48: every form is a row of length 1, memory being the register code 6. -/
theorem logicalRows : Obligations.LogicalRows := fun r =>
  ⟨answersOneByte_of_row (Rom.ana_row r), answersOneByte_of_row (Rom.xra_row r),
    answersOneByte_of_row (Rom.ora_row r), answersOneByte_of_row (Rom.cmp_row r)⟩

/-- Settles O49: four rows of length 2, whose templates end with byte 2. -/
theorem logicalImmediateRows : Obligations.LogicalImmediateRows := by
  refine ⟨answersTwoBytes_of_row rfl ⟨rfl, rfl⟩ ?_, answersTwoBytes_of_row rfl ⟨rfl, rfl⟩ ?_,
    answersTwoBytes_of_row rfl ⟨rfl, rfl⟩ ?_, answersTwoBytes_of_row rfl ⟨rfl, rfl⟩ ?_⟩ <;>
    intro b2 <;> simp [subst_cons_eq_some, lit2]

/-- Settles O50: seven rows of length 1; no template holds a placeholder. -/
theorem rotateAndCarryRows : Obligations.RotateAndCarryRows :=
  ⟨answersOneByte_of_row ⟨rfl, rfl⟩, answersOneByte_of_row ⟨rfl, rfl⟩, answersOneByte_of_row ⟨rfl, rfl⟩,
    answersOneByte_of_row ⟨rfl, rfl⟩, answersOneByte_of_row ⟨rfl, rfl⟩, answersOneByte_of_row ⟨rfl, rfl⟩,
    answersOneByte_of_row ⟨rfl, rfl⟩⟩

end Sys2Proof.Machine

/-!
PROOFS. The statements of the branch group (44_branch.md), from the rows its opcodes have in the ROMs.
-/

namespace Sys2Proof.Machine

open Sys2Proof.Stated

/-! ### The rule of an opcode whose text ends with its target -/

/-- Literal text, then the 16-bit operand: the shape of every jump's and every call's template (44_branch.md R220 to
R223). -/
theorem subst_lit_word16 (op b2 b3 : Byte) (x : String) :
    subst op [b2, b3] [.lit x, .word16] = some (x ++ lit4 b2 b3) := by
  simp [subst_cons_eq_some, lit4, combine_eq_append]

/-- A row of length 3 whose text ends with the address its operand bytes hold (30_encoding.md R86). -/
theorem answersThreeBytes_of_target_row {op canon : Byte} {mnemonic x : String} {flags : FlagSet}
    (hrow : Rom.contents.HasRow op canon ⟨mnemonic, [.lit x, .word16], .three, .a16, flags⟩) :
    AnswersThreeBytes op canon mnemonic (fun b2 b3 => x ++ lit4 b2 b3) flags :=
  answersThreeBytes_of_row rfl hrow fun b2 b3 => subst_lit_word16 op b2 b3 x

/-! ### The rows of the branch group -/

/-- JMP's rows, the second byte value included (44_branch.md R220). -/
theorem Rom.jmp_row : ∀ op ∈ ([0xC3, 0xCB] : List Byte),
    Rom.contents.HasRow op 0xC3 ⟨"JMP a16", [.lit "(PC) <= ", .word16], .three, .a16, .empty⟩ := by
  decide

/-- Jcondition's rows, for every condition code (44_branch.md R221). -/
theorem Rom.jcondition_row : ∀ c : BitVec 3,
    Rom.contents.HasRow (0b11#2 ++ c ++ 0b010#3) (0b11#2 ++ c ++ 0b010#3)
      ⟨"J" ++ conditionName c ++ " a16", [.lit ("if " ++ conditionName c ++ " then (PC) <= "), .word16],
        .three, .a16, .empty⟩ := by
  decide

/-- CALL's rows, the three second byte values included (44_branch.md R222). -/
theorem Rom.call_row : ∀ op ∈ ([0xCD, 0xDD, 0xED, 0xFD] : List Byte),
    Rom.contents.HasRow op 0xCD ⟨"CALL a16", [.lit callText, .word16], .three, .a16, .empty⟩ := by
  decide

/-- Ccondition's rows, for every condition code: after the condition, CALL's text (44_branch.md R223). -/
theorem Rom.ccondition_row : ∀ c : BitVec 3,
    Rom.contents.HasRow (0b11#2 ++ c ++ 0b100#3) (0b11#2 ++ c ++ 0b100#3)
      ⟨"C" ++ conditionName c ++ " a16", [.lit ("if " ++ conditionName c ++ " then " ++ callText), .word16],
        .three, .a16, .empty⟩ := by
  decide

/-- RET's rows, the second byte value included (44_branch.md R224). -/
theorem Rom.ret_row : ∀ op ∈ ([0xC9, 0xD9] : List Byte),
    Rom.contents.HasRow op 0xC9 ⟨"RET", [.lit returnText], .one, .noOperand, .empty⟩ := by
  decide

/-- Rcondition's rows, for every condition code: after the condition, RET's text (44_branch.md R225). -/
theorem Rom.rcondition_row : ∀ c : BitVec 3,
    Rom.contents.HasRow (0b11#2 ++ c ++ 0b000#3) (0b11#2 ++ c ++ 0b000#3)
      ⟨"R" ++ conditionName c, [.lit ("if " ++ conditionName c ++ " then " ++ returnText)],
        .one, .noOperand, .empty⟩ := by
  decide

/-- RST's rows, for every restart number: the target is literal text of the template, so no byte after the opcode is an
operand (44_branch.md R226). -/
theorem Rom.rst_row : ∀ n : BitVec 3,
    Rom.contents.HasRow (0b11#2 ++ n ++ 0b111#3) (0b11#2 ++ n ++ 0b111#3)
      ⟨"RST " ++ String.ofList [digit n.toNat], [.lit (callText ++ "#$" ++ hex4 (BitVec.ofNat 16 (8 * n.toNat)))],
        .one, .noOperand, .empty⟩ := by
  decide

/-- Settles O51: four families of rows of length 3, and the text of each ends with the target. -/
theorem jumpAndCallRows : Obligations.JumpAndCallRows :=
  ⟨fun op h => answersThreeBytes_of_target_row (Rom.jmp_row op h),
    fun c => answersThreeBytes_of_target_row (Rom.jcondition_row c),
    fun op h => answersThreeBytes_of_target_row (Rom.call_row op h),
    fun c => answersThreeBytes_of_target_row (Rom.ccondition_row c)⟩

/-- Settles O52: every form is a row of length 1; no template holds a placeholder. -/
theorem returnAndRestartRows : Obligations.ReturnAndRestartRows :=
  ⟨fun op h => answersOneByte_of_row (Rom.ret_row op h), fun c => answersOneByte_of_row (Rom.rcondition_row c),
    fun n => answersOneByte_of_row (Rom.rst_row n), answersOneByte_of_row ⟨rfl, rfl⟩⟩

end Sys2Proof.Machine

/-!
PROOFS. The statements of the stack, I/O and machine control group (45_stack_io_control.md), from the rows its opcodes
have in the ROMs.
-/

namespace Sys2Proof.Machine

open Sys2Proof.Stated

/-! ### The rule of an opcode whose text names its port -/

/-- Byte 2 between two literal texts: the shape of the template of IN and of OUT (45_stack_io_control.md R246, R247). -/
theorem subst_lit_byte2_lit (op b2 : Byte) (x y : String) :
    subst op [b2] [.lit x, .byte2, .lit y] = some (x ++ lit2 b2 ++ y) := by
  simp [subst_cons_eq_some, lit2, String.append_assoc]

/-- A row of length 2 whose text names the port that byte 2 holds (30_encoding.md R72). -/
theorem answersTwoBytes_of_port_row {op canon : Byte} {mnemonic x y : String} {flags : FlagSet}
    (hrow : Rom.contents.HasRow op canon ⟨mnemonic, [.lit x, .byte2, .lit y], .two, .port8, flags⟩) :
    AnswersTwoBytes op canon mnemonic (fun b2 => x ++ lit2 b2 ++ y) flags :=
  answersTwoBytes_of_row rfl hrow fun b2 => subst_lit_byte2_lit op b2 x y

/-! ### The rows of the stack, I/O and machine control group -/

/-- PUSH's rows, for every pair with named halves: the high register is stored first, below the old top
(45_stack_io_control.md R240). -/
theorem Rom.push_row : ∀ rp : BitVec 2, rp ≠ 3 →
    Rom.contents.HasRow (0b11#2 ++ rp ++ 0b0101#4) (0b11#2 ++ rp ++ 0b0101#4)
      ⟨"PUSH " ++ pairName rp,
        [.lit ("((SP) - 1) <= " ++ pairHigh rp ++ ", ((SP) - 2) <= " ++ pairLow rp ++ ", (SP) <= (SP) - 2")],
        .one, .noOperand, .empty⟩ := by
  decide

/-- POP's rows, for every pair with named halves: the low register is loaded first, from the top
(45_stack_io_control.md R242). -/
theorem Rom.pop_row : ∀ rp : BitVec 2, rp ≠ 3 →
    Rom.contents.HasRow (0b11#2 ++ rp ++ 0b0001#4) (0b11#2 ++ rp ++ 0b0001#4)
      ⟨"POP " ++ pairName rp,
        [.lit (pairLow rp ++ " <= ((SP)), " ++ pairHigh rp ++ " <= ((SP) + 1), (SP) <= (SP) + 2")],
        .one, .noOperand, .empty⟩ := by
  decide

/-- NOP's rows, the seven second byte values included (45_stack_io_control.md R251). -/
theorem Rom.nop_row : ∀ op ∈ ([0x00, 0x08, 0x10, 0x18, 0x20, 0x28, 0x30, 0x38] : List Byte),
    Rom.contents.HasRow op 0x00 ⟨"NOP", [.lit "no operation"], .one, .noOperand, .empty⟩ := by
  decide

/-- Settles O53: every form is a row of length 1; pair code 3 is PSW, whose rows stand alone. -/
theorem stackRows : Obligations.StackRows :=
  ⟨fun rp h => ⟨answersOneByte_of_row (Rom.push_row rp h), answersOneByte_of_row (Rom.pop_row rp h)⟩,
    answersOneByte_of_row ⟨rfl, rfl⟩, answersOneByte_of_row ⟨rfl, rfl⟩, answersOneByte_of_row ⟨rfl, rfl⟩,
    answersOneByte_of_row ⟨rfl, rfl⟩⟩

/-- Settles O54: two rows of length 2; the port is byte 2, and the literal text after it closes the port's name. -/
theorem portRows : Obligations.PortRows :=
  ⟨answersTwoBytes_of_port_row ⟨rfl, rfl⟩, answersTwoBytes_of_port_row ⟨rfl, rfl⟩⟩

/-- Settles O55: every form is a row of length 1, HLT's among them, so the cursor goes on after it. -/
theorem machineControlRows : Obligations.MachineControlRows :=
  ⟨answersOneByte_of_row ⟨rfl, rfl⟩, answersOneByte_of_row ⟨rfl, rfl⟩, answersOneByte_of_row ⟨rfl, rfl⟩,
    fun op h => answersOneByte_of_row (Rom.nop_row op h)⟩

end Sys2Proof.Machine

/-!
PROOFS. The outcomes and their conditions (60_exceptions.md): the order in which an outcome is chosen, that no request
faults, and that the block goes on after HLT.
-/

namespace Sys2Proof.Machine

open Sys2Proof.Stated

/-! ### The order of the outcomes -/

/-- A step that answers a next state delivers an answer to the request for the opcode at the offset; out of range, that
answer is the same for every opcode (40_decode_operation.md R110). -/
theorem step_next_answerOf {s t : State} (h : step s = .next t) :
    ∃ bs o, answerOf s.rom (Memory.read s.buf s.offset) bs s.request = some o ∧ t = s.deliver o := by
  obtain ⟨-, -, ⟨hout, rfl⟩ | ⟨op, rest, bs, o, hwin, hanswer, rfl⟩⟩ := step_next h
  · exact ⟨[], _, answerOf_outOfRange _ _ _ hout, rfl⟩
  · have hin : s.offset < s.n := by
      rw [← Nat.not_le, ← State.window_eq_nil, hwin]
      exact List.cons_ne_nil op rest
    obtain ⟨rfl, -⟩ := List.cons.inj ((State.window_cons hin).symm.trans hwin)
    exact ⟨bs, o, hanswer, rfl⟩

/-- Settles O12: each case of an answer names the outcome and the conditions under which it is chosen, and the conditions
of the other outcomes contradict these. -/
theorem outcomesFollowThePriority : Obligations.OutcomesFollowThePriority := by
  intro s t h
  obtain ⟨bs, o, hanswer, rfl⟩ := step_next_answerOf h
  refine ⟨o, rfl, ?_⟩
  obtain ⟨hout, rfl⟩ | ⟨hin, e', he', hcase⟩ := answerOf_cases hanswer
  · refine ⟨fun _ => ⟨_, rfl⟩, fun op e hop _ => ?_⟩
    obtain ⟨hin, -⟩ := State.readByte_eq_some.mp hop
    exact absurd hin (Nat.not_lt.mpr hout)
  · refine ⟨fun hout => absurd hin (Nat.not_lt.mpr hout), fun op e hop he => ?_⟩
    obtain ⟨-, rfl⟩ := State.readByte_eq_some.mp hop
    obtain rfl : e = e' := Option.some.inj (he.symm.trans he')
    obtain ⟨hshort, rfl⟩ | ⟨hfits, hunk, text, -, rfl⟩ | ⟨hfits, hreal, -, text, -, rfl⟩ := hcase
    · have hnot : ¬ s.offset + e.length.bytes ≤ s.n := Nat.not_le.mpr hshort
      exact ⟨fun _ => ⟨_, rfl⟩, fun hfits _ => absurd hfits hnot, fun hfits _ => absurd hfits hnot⟩
    · exact ⟨fun hshort => absurd hfits (Nat.not_le.mpr hshort), fun _ _ => ⟨_, rfl⟩,
        fun _ hreal => absurd hunk hreal⟩
    · exact ⟨fun hshort => absurd hfits (Nat.not_le.mpr hshort), fun _ hunk => absurd hunk hreal,
        fun _ _ => ⟨_, rfl⟩⟩

/-! ### No request faults -/

/-- A next state is no fault. -/
theorem safe_next (t : State) : Safe (.next t) := nofun

/-- A step on a presented request whose window holds still answers an outcome (40_decode_operation.md R120). -/
theorem step_answers {s : State} (hrom : s.RomLoaded) (hready : s.Ready) : ∃ o, step s = .next (s.deliver o) :=
  (everyRequestGetsOneOutcome s hrom hready).1.exists

/-- A step is refused where no request is presented or its window changes (70_reset_and_hazards.md R291, R295). -/
theorem step_refused_of_not_ready {s : State} (h : ¬ s.Ready) : ∃ r, step s = .refused r := by
  obtain ⟨r, hr⟩ := Option.ne_none_iff_exists'.mp (mt turnedAway_eq_none.mp h)
  exact ⟨r, by simp [step, hr]⟩

/-- No step on loaded ROMs faults: it answers, or it is refused. -/
theorem step_safe {s : State} (hrom : s.RomLoaded) : Safe (step s) := by
  by_cases hready : s.Ready
  · obtain ⟨o, hstep⟩ := step_answers hrom hready
    exact hstep ▸ safe_next _
  · obtain ⟨r, hstep⟩ := step_refused_of_not_ready hready
    exact hstep ▸ nofun

/-- Every meaning answers an outcome on loaded ROMs: out of range, too few bytes left, or a whole instruction
(60_exceptions.md R264). -/
theorem exec_answers {s : State} (hrom : s.RomLoaded) (i : Instr) : ∃ o, exec i s = .next (s.deliver o) := by
  rw [exec_eq_respond]
  obtain ⟨e, he⟩ := hrom.record_exists i.opcode
  by_cases hin : s.offset < s.n
  · by_cases hlen : s.offset + e.length.bytes ≤ s.n
    · have hbytes : i.operands.length + 1 = e.length.bytes := by rw [operands_length, Rom.record_length (hrom ▸ he)]
      obtain ⟨text, -, hrespond⟩ := respond_decoded hrom he hlen hbytes
      exact ⟨_, hrespond⟩
    · exact ⟨_, respond_of_answer (answerOf_truncated _ he hin (Nat.lt_of_not_le hlen))⟩
  · exact ⟨_, respond_of_answer (answerOf_outOfRange _ _ _ (Nat.le_of_not_lt hin))⟩

/-- Settles O14: on loaded ROMs a step that is not refused and every meaning answer an outcome, which is `Decoded` where
the instruction's bytes lie in the buffer. -/
theorem everyOtherRequestIsDecoded : Obligations.EveryOtherRequestIsDecoded := by
  intro s hrom
  refine ⟨fun op e hready hop he hlen => ?_, step_safe hrom, fun i => ?_, step_answers hrom⟩
  · obtain ⟨text, -, hstep⟩ := step_decoded hrom hready hop he hlen
    exact ⟨_, hstep, rfl⟩
  · obtain ⟨o, hexec⟩ := exec_answers hrom i
    exact hexec ▸ safe_next _

/-! ### HLT -/

/-- After an outcome that consumes bytes, the walk presents its next request while the cursor is in the buffer
(40_decode_operation.md R123). -/
theorem State.ready_deliver {s : State} {o : DecodeOutcome} {c : Nat} (hready : s.Ready)
    (hc : o.bytesConsumed = some c) (hin : (s.deliver o).offset < s.n) : (s.deliver o).Ready := by
  refine ⟨?_, hready.2⟩
  simpa [goesOn, cursorAfter, hc] using hin

/-- Settles O21: HLT is a row of length 1 like any other, so the state it leads to presents the next request, which is
answered. -/
theorem hltDoesNotStopTheBlock : Obligations.HltDoesNotStopTheBlock := by
  intro s hrom hready hop
  obtain ⟨-, -, hhlt, -⟩ := machineControlRows
  obtain ⟨-, hstep, -⟩ := hhlt s hrom
  refine ⟨_, hstep hready hop, rfl, rfl, fun hin => ?_⟩
  obtain ⟨o, hnext⟩ := step_answers (s := s.deliver _) hrom (State.ready_deliver hready rfl hin)
  exact ⟨_, hnext⟩

end Sys2Proof.Machine

/-!
PROOFS. The decoder and the encoder (30_encoding.md): each undoes the other, the decoder rejects only missing bytes, and
a step runs the instruction its bytes decode to.
-/

namespace Sys2Proof.Machine

/-! ### Decoding and encoding -/

/-- The bytes of an instruction decode to it and leave the bytes after them, for the row of every constructor. -/
theorem decode_encode (i : Instr) (rest : List Byte) : decode (encode i ++ rest) = .ok (i, rest) := by
  cases i <;> simp only [encode, Instr.opcode, Instr.operands, List.cons_append, List.nil_append] <;> rfl

/-- A list that decodes begins with the bytes of the instruction: its row fixes the opcode and takes the operand bytes. -/
theorem eq_encode_of_decode {bs : List Byte} {i : Instr} {rest : List Byte} (h : decode bs = .ok (i, rest)) :
    bs = encode i ++ rest := by
  cases bs with
  | nil => simp [decode] at h
  | cons op bs =>
    have hfits := formAt_fits op
    cases hform : formAt op with
    | i1 j =>
      obtain ⟨rfl, rfl⟩ : j = i ∧ bs = rest := by simpa [decode_i1 hform] using h
      obtain ⟨hop, hoperands⟩ : j.opcode = op ∧ j.operands = [] := by rwa [hform] at hfits
      simp [encode, hop, hoperands]
    | i2 mk =>
      rw [hform] at hfits
      cases bs with
      | nil => simp [decode_i2_short hform] at h
      | cons b2 bs =>
        obtain ⟨rfl, rfl⟩ : mk b2 = i ∧ bs = rest := by simpa [decode_i2 hform] using h
        obtain ⟨hop, hoperands⟩ := hfits b2
        simp [encode, hop, hoperands]
    | i3 mk =>
      rw [hform] at hfits
      match bs with
      | [] => simp [decode_i3_short₁ hform] at h
      | [b2] => simp [decode_i3_short₂ hform] at h
      | b2 :: b3 :: bs =>
        obtain ⟨rfl, rfl⟩ : mk b2 b3 = i ∧ bs = rest := by simpa [decode_i3 hform] using h
        obtain ⟨hop, hoperands⟩ := hfits b2 b3
        simp [encode, hop, hoperands]

/-- Settles O1: an instruction's bytes decode to it, and only lists that begin with them do. -/
theorem decodeGivesExactlyWhatEncodeWrites : Obligations.DecodeGivesExactlyWhatEncodeWrites :=
  fun _ i rest => ⟨eq_encode_of_decode, fun h => h ▸ decode_encode i rest⟩

/-- A list that begins with an opcode is rejected exactly when fewer bytes follow than the opcode's row takes. -/
theorem decode_cons_error_iff (op : Byte) (bs : List Byte) :
    (∃ e, decode (op :: bs) = .error e) ↔ bs.length < (formAt op).operandCount := by
  obtain ⟨i, rest, hdecode, -, hoperands, hlength⟩ | ⟨e, hdecode, hshort⟩ := decode_cons_cases op bs
  · rw [hoperands, List.length_take] at hlength
    simp only [hdecode, reduceCtorEq, exists_false, false_iff]
    omega
  · exact iff_of_true ⟨e, hdecode⟩ hshort

/-- Settles O2: the record's length is one more than the number of operand bytes the row takes. -/
theorem decodeRejectsOnlyMissingBytes : Obligations.DecodeRejectsOnlyMissingBytes := by
  intro op bs
  obtain ⟨e, he⟩ := Rom.record_exists op
  have hlength := Rom.record_length he
  simp only [decode_cons_error_iff, he, Option.some.injEq, exists_eq_left', hlength, Nat.add_lt_add_iff_right]

/-- Settles O3: each word evaluates. -/
theorem writtenWordsDecode : Obligations.WrittenWordsDecode :=
  ⟨rfl, rfl, rfl, rfl, rfl, rfl, rfl, rfl, rfl, rfl⟩

/-! ### The instruction at the cursor -/

/-- No instruction has more than two operand bytes (30_encoding.md R71 to R73). -/
theorem operands_length_le (i : Instr) : i.operands.length ≤ 2 := by
  rw [operands_length]
  cases formAt i.opcode <;> simp [InstrForm.operandCount]

/-- Where a buffer holds an instruction's bytes at the offset, the window begins with them (20_memory.md R51). -/
theorem State.window_of_encode {s : State} {i : Instr}
    (h : ∀ k (hk : k < (encode i).length), s.readByte (s.offset + k) = some (encode i)[k]) :
    ∃ rest, s.window = encode i ++ rest := by
  obtain ⟨hin, hop⟩ := State.readByte_eq_some.mp (h 0 (by simp [encode]))
  obtain ⟨hlast, -⟩ := State.readByte_eq_some.mp (h i.operands.length (by simp [encode]))
  have hoperands : s.window.tail.take i.operands.length = i.operands := by
    rw [State.window_tail_take (operands_length_le i) hlast, State.operandBytes_of_encode h]
  refine ⟨s.window.tail.drop i.operands.length, ?_⟩
  calc s.window = i.opcode :: s.window.tail := by
        rw [State.window_cons hin]
        exact congrArg (· :: _) hop
    _ = i.opcode :: (i.operands ++ s.window.tail.drop i.operands.length) := by
        conv_lhs => rw [← List.take_append_drop i.operands.length s.window.tail, hoperands]
    _ = encode i ++ s.window.tail.drop i.operands.length := rfl

/-- Settles O9: the window begins with the instruction's bytes, so it decodes to the instruction. -/
theorem stepRunsTheDecodedInstruction : Obligations.StepRunsTheDecodedInstruction := by
  intro s i ⟨hreq, hsteady⟩ hencode
  obtain ⟨rest, hwin⟩ := State.window_of_encode hencode
  exact step_decodes hreq hsteady (hwin ▸ decode_encode i rest)

end Sys2Proof.Machine

/-!
PROOFS. The contents of the two ROMs (10_state.md section 1, 30_encoding.md sections 1 and 4): the canonical opcodes, the
checks of the table invariants, and how many opcodes have each length.
-/

namespace Sys2Proof.Machine

open Sys2Proof.Stated

/-- The lookup ROM gives every opcode the id of its canonical opcode (30_encoding.md R79, R80). -/
theorem Rom.lookup_eq_real_canonicalOpcode :
    ∀ op : Byte, Rom.contents.lookup op = .real (canonicalOpcode op) := by
  decide

/-- The listed canonical opcode of a second byte value is its canonical opcode, another value, and its own
(30_encoding.md R79). -/
theorem secondByteValues_canonical : ∀ p ∈ secondByteValues,
    p.1 ≠ p.2 ∧ canonicalOpcode p.1 = p.2 ∧ canonicalOpcode p.2 = p.2 := by
  rw [← List.all_iff_forall_prop]
  decide

/-- Settles O4: the lookups and both counts are facts about the 256 entries. -/
theorem lookupGivesCanonicalOpcode : Obligations.LookupGivesCanonicalOpcode := by
  refine ⟨Rom.lookup_eq_real_canonicalOpcode, fun p hp => ?_, rfl, by decide +kernel, rfl⟩
  obtain ⟨hne, hcanonical, -⟩ := secondByteValues_canonical p hp
  exact ⟨hne, hcanonical⟩

/-- Settles O6: each check of the ROMs evaluates to true. -/
theorem romsAreWellFormed : Obligations.RomsAreWellFormed := by
  unfold Obligations.RomsAreWellFormed
  decide

/-- Every opcode's record has the length of its operand kind (30_encoding.md R74). -/
theorem Rom.record_any_length (op : Byte) (k : Nat) :
    (Rom.contents.record (Rom.contents.lookup op)).any (fun e => e.length.bytes == k) =
      (kindBytes (operandKind op) == k) := by
  obtain ⟨e, he, -, hlength⟩ := operandKindsAndLengths op
  rw [he, Option.any_some, hlength]

/-- An operand kind goes with a length of 1, 2 or 3 bytes. -/
theorem kindBytes_mem (k : OperandKind) : kindBytes k = 1 ∨ kindBytes k = 2 ∨ kindBytes k = 3 := by
  cases k <;> decide

/-- Settles O7: the three lengths are counted over the listed operand kinds, and no kind has another length. -/
theorem formatCounts : Obligations.FormatCounts := by
  intro k
  simp only [Rom.record_any_length]
  by_cases hk : k = 1 ∨ k = 2 ∨ k = 3
  · obtain rfl | rfl | rfl := hk <;> decide +kernel
  · have hnone : ∀ op : Nat, (kindBytes (operandKind (BitVec.ofNat 8 op)) == k) = false := fun op => by
      have hmem := kindBytes_mem (operandKind (BitVec.ofNat 8 op))
      simp only [beq_eq_false_iff_ne]
      omega
    simp only [hnone, List.filter_false, List.length_nil]
    rw [if_neg (by omega), if_neg (by omega), if_neg (by omega)]

end Sys2Proof.Machine

/-!
PROOFS. What holds of every state (10_state.md section 3, 40_decode_operation.md section 2, 70_reset_and_hazards.md
section 1): what a delivery changes and leaves, the turns of the reference walk, and the invariant of a run, kept by
every step and by what a caller does.
-/

namespace Sys2Proof.Machine

/-! ### The turn of the walk -/

/-- The walk goes on exactly after an outcome that consumes bytes and leaves the cursor in the buffer
(40_decode_operation.md R123). -/
theorem goesOn_eq_true {o : DecodeOutcome} {offset n : Nat} :
    goesOn o offset n = true ↔ o.bytesConsumed ≠ none ∧ cursorAfter o offset < n := by
  unfold goesOn cursorAfter
  cases o.bytesConsumed <;> simp

/-- After an outcome that consumes bytes, the cursor moves by them and the walk goes on while it is below `N`. -/
theorem State.deliver_of_consumed {o : DecodeOutcome} {c : Nat} (hc : o.bytesConsumed = some c) (s : State) :
    (s.deliver o).offset = s.offset + c ∧
      ((s.deliver o).requested = true ↔ (s.deliver o).offset < (s.deliver o).n) := by
  simp [goesOn_eq_true, cursorAfter, hc]

/-- After a failure the cursor stays and the walk stops. -/
theorem State.deliver_of_failure {o : DecodeOutcome} (hc : o.bytesConsumed = none) (s : State) :
    (s.deliver o).offset = s.offset ∧ (s.deliver o).requested = false := by
  simp [goesOn, cursorAfter, hc]

/-! ### What changes and what stays -/

/-- Settles O33: a step that answers delivers an outcome, and a delivery leaves the ROMs and the buffer. -/
theorem stepChangesNoRomAndNoByte : Obligations.StepChangesNoRomAndNoByte := by
  intro s t h
  obtain ⟨o, rfl, -⟩ := step_deliver h
  exact ⟨rfl, rfl, rfl, rfl, fun _ => rfl⟩

/-- Settles O34: every meaning is a response, and a response that answers delivers its outcome. -/
theorem execFrame : Obligations.ExecFrame := by
  intro i s t h
  rw [exec_eq_respond] at h
  obtain ⟨o, -, rfl⟩ := respond_next h
  exact ⟨rfl, rfl, rfl, rfl, fun _ => rfl, o, rfl, rfl, rfl, rfl, goesOn_eq_true⟩

/-- A step whose outcome consumes bytes: 1, 2 or 3 of them, all in the buffer, and the cursor moves past them. -/
theorem step_consumed {s t : State} {o : DecodeOutcome} {c : Nat} (h : step s = .next t)
    (ho : t.outcome = some o) (hc : o.bytesConsumed = some c) :
    (c = 1 ∨ c = 2 ∨ c = 3) ∧ s.offset + c ≤ s.n ∧ t.offset = s.offset + c := by
  obtain ⟨o', rfl, -, hbounds⟩ := step_deliver h
  obtain rfl : o' = o := Option.some.inj ho
  obtain ⟨hpos, hle, hin⟩ := hbounds c hc
  exact ⟨by omega, hin, (State.deliver_of_consumed hc s).1⟩

/-- Settles O23: both kinds of outcome consume bytes. -/
theorem consumedBytesLieInTheBuffer : Obligations.ConsumedBytesLieInTheBuffer :=
  fun _ _ h => ⟨fun _ hr => step_consumed h hr rfl, fun _ hr => step_consumed h hr rfl⟩

/-! ### The reference walk -/

/-- The empty buffer is canonical. -/
theorem Memory.nil_wf : Memory.wf [] := Memory.reset_wf

/-- A walk reads the bytes it was started with. -/
theorem State.startWalk_readByte (s : State) {bs : List Byte} {k : Nat} (hk : k < bs.length) :
    (s.startWalk bs).readByte k = some bs[k] := by
  refine State.readByte_eq_some.mpr ⟨hk, ?_⟩
  simpa using Memory.read_load_inside Memory.nil_wf 0 k bs hk

/-- Settles O24: `Decoded` and `Unknown` consume bytes, the other outcomes are failures. -/
theorem referenceWalkTurns : Obligations.ReferenceWalkTurns := by
  refine ⟨fun s bs => ⟨rfl, rfl, rfl, by simp, fun k hk => s.startWalk_readByte hk⟩, fun s t h => ?_⟩
  obtain ⟨o, rfl, -⟩ := step_deliver h
  refine ⟨o, rfl, rfl, ?_, ?_, ?_, ?_⟩
  · rintro r rfl
    exact State.deliver_of_consumed rfl s
  · rintro r rfl
    exact State.deliver_of_consumed rfl s
  · rintro i rfl
    exact State.deliver_of_failure rfl s
  · rintro i rfl
    exact State.deliver_of_failure rfl s

/-! ### The invariant -/

/-- A walk without a failure goes on with an outcome about the offset it has reached, and leads to the cursor after
that outcome (40_decode_operation.md R123). -/
theorem walkedTo_append_singleton {a k : Nat} {os : List DecodeOutcome} {o : DecodeOutcome}
    (hwalk : walkedTo a os = some k) (hgo : ∀ p ∈ os, p.bytesConsumed ≠ none) (ho : o.address = k) :
    walkedTo a (os ++ [o]) = some (cursorAfter o k) := by
  induction os generalizing a with
  | nil =>
    obtain rfl : a = k := Option.some.inj hwalk
    cases hc : o.bytesConsumed <;> simp [walkedTo, cursorAfter, ho, hc]
  | cons p os ih =>
    obtain ⟨hp, hos⟩ := List.forall_mem_cons.mp hgo
    obtain ⟨c, hc⟩ := Option.ne_none_iff_exists'.mp hp
    simp only [List.cons_append, walkedTo, hc, Option.ite_none_right_eq_some] at hwalk ⊢
    exact ⟨hwalk.1, ih hwalk.2 hos⟩

/-- Settles O29: the delivered outcome is about the cursor, which the walk's list has reached without a failure, and its
consumed bytes lie in the buffer. -/
theorem stepKeepsTheInvariant : Obligations.StepKeepsTheInvariant := by
  intro s t ⟨hrom, hbuffer, hcursor, ⟨a, hwalk⟩, hgo⟩ h
  obtain ⟨hreq, -⟩ := step_next h
  obtain ⟨o, rfl, haddress, hbounds⟩ := step_deliver h
  refine ⟨hrom, hbuffer, ?_, ⟨a, walkedTo_append_singleton hwalk (hgo hreq) haddress⟩, fun hnext => ?_⟩
  · cases hc : o.bytesConsumed with
    | none => exact (State.deliver_of_failure hc s).1.trans_le hcursor
    | some c => exact (State.deliver_of_consumed hc s).1.trans_le (hbounds c hc).2.2
  · obtain ⟨hconsumed, -⟩ := goesOn_eq_true.mp hnext
    exact List.forall_mem_append.mpr ⟨hgo hreq, List.forall_mem_singleton.mpr hconsumed⟩

/-- Settles O31: the buffer and the list are empty. -/
theorem resetMeetsTheInvariant : Obligations.ResetMeetsTheInvariant :=
  ⟨rfl, ⟨Memory.reset_wf, nofun⟩, Nat.le_refl 0, ⟨0, rfl⟩, nofun⟩

/-- Settles O32: each clause reads a field of the state after reset. -/
theorem resetLoadsTheRoms : Obligations.ResetLoadsTheRoms :=
  ⟨rfl, rfl, rfl, rfl, rfl, rfl, rfl⟩

/-- The bytes of a list laid out from index 0 are a canonical buffer below their number. -/
theorem Memory.load_nil_ok (bs : List Byte) :
    Memory.wf (Memory.load [] 0 bs) ∧ ∀ c ∈ Memory.load [] 0 bs, c.1 < bs.length := by
  refine ⟨Memory.load_wf Memory.nil_wf 0 bs, fun c hc => ?_⟩
  simpa using Memory.mem_load hc

/-- A write between requests keeps the buffer canonical and below `N`. -/
theorem State.BufferOk.writeBetween {s : State} (h : s.BufferOk) (i : Nat) (b : Byte) :
    (s.writeBetween i b).BufferOk := by
  by_cases hi : i < s.n
  · simp only [State.BufferOk, State.writeBetween_buf, State.writeBetween_n, if_pos hi]
    refine ⟨Memory.write_wf h.1 i b, fun c hc => ?_⟩
    obtain ⟨rfl, -⟩ | hc := Memory.mem_write hc
    · exact hi
    · exact h.2 c hc
  · simpa only [State.BufferOk, State.writeBetween_buf, State.writeBetween_n, if_neg hi] using h

/-- A write leaves the ROMs loaded. -/
theorem State.RomLoaded.writeBetween {s : State} (h : s.RomLoaded) (i : Nat) (b : Byte) :
    (s.writeBetween i b).RomLoaded :=
  (State.writeBetween_rom i b s).trans h

/-- A write between requests changes the buffer alone, so it keeps the invariant. -/
theorem State.Inv.writeBetween {s : State} (h : s.Inv) (i : Nat) (b : Byte) : (s.writeBetween i b).Inv := by
  obtain ⟨hrom, hbuffer, hcursor, hwalk⟩ := h
  exact ⟨hrom.writeBetween i b, hbuffer.writeBetween i b, by simpa [State.CursorOk] using hcursor,
    by simpa [State.TraceOk] using hwalk⟩

/-- A write during a request differs from one between requests in whether the window holds still, which is no part of
the invariant. -/
theorem State.Inv.writeDuring {s : State} (h : s.Inv) (i : Nat) (b : Byte) : (s.writeDuring i b).Inv := by
  obtain ⟨hrom, hbuffer, hcursor, hwalk⟩ := h.writeBetween i b
  exact ⟨hrom, hbuffer, hcursor, hwalk⟩

/-- Settles O30: a walk starts on bytes laid out from index 0 with an empty list; a change of
length cuts the buffer. -/
theorem callerActionsKeepTheInvariant : Obligations.CallerActionsKeepTheInvariant := by
  intro s
  refine ⟨fun hrom bs => ?_, fun bs _ => Memory.load_nil_ok bs, fun h i b => ⟨h.writeBetween i b, h.writeDuring i b⟩,
    fun h n => ?_⟩
  · exact ⟨hrom, Memory.load_nil_ok bs, Nat.zero_le _, ⟨0, rfl⟩, fun _ => nofun⟩
  · exact ⟨Memory.below_wf h.1 n, fun _ hc => Memory.lt_of_mem_below hc⟩

/-! ### Steps that are refused -/

/-- A step on a state that is turned away is refused by that name. -/
theorem step_of_turnedAway {s : State} {r : Refusal} (h : s.turnedAway = some r) : step s = .refused r := by
  simp [step, h]

/-- Settles O27: without a request the state is turned away, and reset presents none. -/
theorem noAnswerWithoutARequest : Obligations.NoAnswerWithoutARequest :=
  ⟨fun s h => step_of_turnedAway (by simp [State.turnedAway, h]), rfl⟩

end Sys2Proof.Machine

/-!
PROOFS. The outcome of a request (40_decode_operation.md section 2, 60_exceptions.md section 1): which opcodes are
truncated or unknown, that the request alone decides it, and the second byte values.
-/

namespace Sys2Proof.Machine

open Sys2Proof.Stated

/-! ### Truncated instructions -/

/-- A truncated answer of a step is about the opcode at the offset, whose record's length passes the end of the buffer
(40_decode_operation.md R114), with the whole record of 10_state.md R30. -/
theorem step_next_truncated {s t : State} {i : TruncInfo} (h : step s = .next t)
    (hi : t.outcome = some (.truncated i)) :
    ∃ op e, s.readByte s.offset = some op ∧ s.rom.record (s.rom.lookup op) = some e ∧
      s.n < s.offset + e.length.bytes ∧
      i = ⟨s.offset, op, s.rom.lookup op, e.length.bytes, s.n - s.offset, bytesLeft s⟩ := by
  obtain ⟨bs, o, hanswer, rfl⟩ := step_next_answerOf h
  obtain rfl : o = .truncated i := Option.some.inj hi
  obtain ⟨-, hout⟩ | ⟨hin, e, he, ⟨hlen, htrunc⟩ | ⟨-, -, _, -, hunk⟩ | ⟨-, -, -, _, -, hdec⟩⟩ :=
    answerOf_cases hanswer
  · nomatch hout
  · have hle := e.length.bytes_le
    have hwhole : s.n < s.offset + e.length.bytes := hlen
    refine ⟨_, e, State.readByte_eq_some.mpr ⟨hin, rfl⟩, he, hwhole, ?_⟩
    rw [DecodeOutcome.truncated.inj htrunc, truncInfo_request (by omega)]
  · nomatch hunk
  · nomatch hdec

/-- Settles O15: the record's length is that of the opcode's listed kind, and at least one byte of it is in the buffer. -/
theorem onlyLongInstructionsAreTruncated : Obligations.OnlyLongInstructionsAreTruncated := by
  refine ⟨fun s t i hrom h hi => ?_, by decide +kernel⟩
  obtain ⟨op, e, hop, he, hlen, rfl⟩ := step_next_truncated h hi
  obtain ⟨e', he', -, hkind⟩ := operandKindsAndLengths op
  obtain rfl : e = e' := Option.some.inj ((hrom ▸ he).symm.trans he')
  obtain ⟨hin, -⟩ := State.readByte_eq_some.mp hop
  have hlong : kindBytes (operandKind op) ≠ 1 := by omega
  have hend : s.n - (e.length.bytes - 1) ≤ s.offset := by omega
  exact ⟨hlong, hkind, hin, hlen, hend, rfl, hop, rfl, rfl, rfl, rfl⟩

/-! ### The sentinel -/

/-- The length of the sentinel's record is 1 (30_encoding.md R81). -/
theorem unknownDescriptor_bytes : unknownDescriptor.length.bytes = 1 := rfl

/-- The text of the sentinel's record names the opcode (30_encoding.md R81). -/
theorem subst_unknownDescriptor (op : Byte) :
    subst op [] unknownDescriptor.operation = some ("unrecognized instruction " ++ lit2 op) := by
  simp [unknownDescriptor, subst_cons_eq_some, lit2]

/-- Settles O16: the ROMs' own entries are real, and the answer for a sentinel's opcode reads none of the bytes that
follow. -/
theorem sentinelAnswersUnknown : Obligations.SentinelAnswersUnknown := by
  refine ⟨fun op => ?_, fun s op hready hop hlookup hunk => ⟨?_, rfl, rfl⟩⟩
  · simp [Rom.lookup_eq_real_canonicalOpcode]
  · obtain ⟨hin, -⟩ := State.readByte_eq_some.mp hop
    obtain ⟨rest, -, hstep⟩ := step_respond hready.1 hready.2 hop
    have hfits : s.request.offset + s.rom.unk.length.bytes ≤ s.request.n := by
      rwa [hunk, unknownDescriptor_bytes]
    have htext : subst op [] s.rom.unk.operation = some ("unrecognized instruction " ++ lit2 op) := by
      rw [hunk, subst_unknownDescriptor]
    rw [hstep, respond_of_answer (answerOf_unknown _ hlookup hin hfits htext), hunk]
    rfl

/-- Settles O17: an unknown answer needs an opcode mapped to the sentinel, and loaded ROMs map none to it. -/
theorem noOpcodeAnswersUnknown : Obligations.NoOpcodeAnswersUnknown := by
  intro s t hrom h r hr
  obtain ⟨bs, o, hanswer, rfl⟩ := step_next_answerOf h
  obtain rfl : o = .unknown r := Option.some.inj hr
  obtain ⟨-, hout⟩ | ⟨-, e, -, ⟨-, htrunc⟩ | ⟨-, hlookup, -⟩ | ⟨-, -, -, _, -, hdec⟩⟩ := answerOf_cases hanswer
  · nomatch hout
  · nomatch htrunc
  · rw [hrom] at hlookup
    exact sentinelAnswersUnknown.1 _ hlookup
  · nomatch hdec

/-! ### The request alone decides the outcome -/

section SameRequest

variable {s t : State} {o : DecodeOutcome}

/-- What a response delivers depends on the ROMs and the request alone (40_decode_operation.md R119). -/
theorem respond_congr {op : Byte} {bs : List Byte} (hrom : s.rom = t.rom) (hreq : s.request = t.request)
    (h : respond op bs s = .next (s.deliver o)) : respond op bs t = .next (t.deliver o) := by
  obtain ⟨o', hanswer, ho⟩ := respond_next h
  obtain rfl : o = o' := State.deliver_inj ho
  exact respond_of_answer (hrom ▸ hreq ▸ hanswer)

/-- What a step delivers depends on the ROMs and the request alone (40_decode_operation.md R119). -/
theorem step_congr (hrom : s.rom = t.rom) (hreq : s.request = t.request) (ht : t.Ready)
    (h : step s = .next (s.deliver o)) : step t = .next (t.deliver o) := by
  obtain ⟨hsreq, hssteady, -⟩ := step_next h
  obtain ⟨htreq, htsteady⟩ := ht
  have hwin : s.window = t.window := congrArg Request.window hreq
  cases hw : t.window with
  | nil =>
    have hout : s.n ≤ s.offset := State.window_eq_nil.mp (hwin.trans hw)
    have hn : s.n = t.n := congrArg Request.n hreq
    have hoffset : s.offset = t.offset := congrArg Request.offset hreq
    rw [step_no_byte hsreq hssteady hout] at h
    obtain rfl := State.deliver_inj (Host.Outcome.next.inj h)
    rw [hn, hoffset] at hout ⊢
    exact step_no_byte htreq htsteady hout
  | cons op bs =>
    rw [hw] at hwin
    cases hdecode : decode (op :: bs) with
    | ok p =>
      rw [step_decodes hsreq hssteady (hwin ▸ hdecode), exec_eq_respond] at h
      rw [step_decodes htreq htsteady (hw ▸ hdecode), exec_eq_respond]
      exact respond_congr hrom hreq h
    | error e =>
      rw [step_short hsreq hssteady hwin hdecode] at h
      rw [step_short htreq htsteady hw hdecode]
      exact respond_congr hrom hreq h

/-- A step on another buffer that holds the same bytes in the window delivers the same outcome. -/
theorem step_of_same_window (h : step s = .next (s.deliver o)) (ht : t.Ready) (hrom : s.rom = t.rom) (hn : s.n = t.n)
    (hoffset : s.offset = t.offset)
    (hread : ∀ i, s.offset ≤ i → i < min s.n (s.offset + 3) → Memory.read s.buf i = Memory.read t.buf i) :
    step t = .next (t.deliver o) := by
  have hreq : s.request = t.request := by
    simp only [State.request, hn, hoffset, State.window_congr hn hoffset hread]
  exact step_congr hrom hreq ht h

end SameRequest

/-- Settles O18: the windows are the same, so the outcome is, and a delivery leaves the ROMs and the buffer. -/
theorem outcomeDependsOnTheWindowAlone : Obligations.OutcomeDependsOnTheWindowAlone := by
  intro s t s' ht hrom hn hoffset hagree h
  obtain ⟨hrom', hbuf', hn', -, hbytes⟩ := stepChangesNoRomAndNoByte s s' h
  obtain ⟨o, rfl, -⟩ := step_deliver h
  refine ⟨⟨o, rfl, step_of_same_window h ht hrom hn hoffset fun i hlow hhigh => ?_⟩, hrom', hn', hbuf', hbytes⟩
  exact State.read_eq_of_readByte_eq hn (by omega) (hagree i hlow hhigh)

/-! ### The buffer after a write -/

/-- Every byte but the written one is what it was. -/
theorem State.read_writeBetween_other (s : State) {i a : Nat} (h : a ≠ i) (b : Byte) :
    Memory.read (s.writeBetween i b).buf a = Memory.read s.buf a := by
  rw [State.writeBetween_buf]
  split
  · exact Memory.read_write_other _ h b
  · rfl

/-- The bytes of a canonical buffer after one of them is written (20_memory.md R63). -/
theorem State.read_writeBetween {s : State} (hwf : Memory.wf s.buf) {i : Nat} (hi : i < s.n) (b : Byte) (a : Nat) :
    Memory.read (s.writeBetween i b).buf a = if a = i then b else Memory.read s.buf a := by
  split
  · next h =>
    rw [h, State.writeBetween_buf, if_pos hi]
    exact Memory.read_write_same hwf i b
  · next h => exact s.read_writeBetween_other h b

/-- The written byte is read back. -/
theorem State.readByte_writeBetween_same {s : State} (hwf : Memory.wf s.buf) {i : Nat} (hi : i < s.n) (b : Byte) :
    (s.writeBetween i b).readByte i = some b :=
  State.readByte_eq_some.mpr ⟨by simpa using hi, by rw [State.read_writeBetween hwf hi, if_pos rfl]⟩

/-- A write between requests leaves a presented request as it is (log 21). -/
theorem State.Ready.writeBetween {s : State} (h : s.Ready) (i : Nat) (b : Byte) : (s.writeBetween i b).Ready :=
  ⟨(State.writeBetween_requested i b s).trans h.1, (State.writeBetween_steady i b s).trans h.2⟩

/-! ### Second byte values -/

/-- Where a template holds no placeholder for the opcode, its text is the same for every opcode. -/
theorem subst_congr_opcode {k : OperandKind} {t : Template} (hp : ∀ p ∈ t, pieceAllowed k p = true) (op op' : Byte)
    (bs : List Byte) : subst op bs t = subst op' bs t := by
  induction t with
  | nil => rfl
  | cons p t ih =>
    obtain ⟨hpiece, hrest⟩ := List.forall_mem_cons.mp hp
    have htext : p.text op bs = p.text op' bs := by
      cases p with
      | opcode => cases k <;> simp [pieceAllowed] at hpiece
      | _ => rfl
    simp only [subst, htext, ih hrest]

/-- The window after its first byte holds the operand bytes that exist. -/
theorem State.window_tail {s : State} (h : s.offset < s.n) : s.window.tail = s.operandBytes (s.avail - 1) := by
  have hlength : s.window.tail.length = s.avail - 1 := by simp [State.avail]
  have havail : s.avail - 1 ≤ 2 ∧ s.offset + (s.avail - 1 + 1) ≤ s.n := by
    unfold State.avail
    omega
  rw [← State.window_tail_take havail.1 havail.2, List.take_of_length_le hlength.le]

section OpcodeWritten

variable {s : State} (c : Byte)

/-- A write at the offset leaves the operand bytes. -/
theorem State.operandBytes_writeBetween_offset (k : Nat) :
    (s.writeBetween s.offset c).operandBytes k = s.operandBytes k :=
  State.operandBytes_congr (by simp) fun i hi _ =>
    s.read_writeBetween_other (by rw [State.writeBetween_offset] at hi; omega) c

/-- A write at the offset changes the first byte of the window alone. -/
theorem State.window_writeBetween_offset (hwf : Memory.wf s.buf) (h : s.offset < s.n) :
    (s.writeBetween s.offset c).window = c :: s.window.tail := by
  have hin : (s.writeBetween s.offset c).offset < (s.writeBetween s.offset c).n := by simpa using h
  have havail : (s.writeBetween s.offset c).avail = s.avail := by simp [State.avail]
  rw [State.window_cons hin, State.window_tail hin, State.window_tail h, havail,
    State.operandBytes_writeBetween_offset, State.read_writeBetween hwf h, State.writeBetween_offset, if_pos rfl]

end OpcodeWritten

/-- Settles O22: both opcodes have the same record, whose text holds no placeholder for the opcode, and the bytes after
the opcode are the same. -/
theorem secondByteValuesDecodeAlike : Obligations.SecondByteValuesDecodeAlike := by
  intro s a c hmem hrom hready hwf ha
  obtain ⟨-, hcanonical, hself⟩ := secondByteValues_canonical (a, c) hmem
  have hlookup : s.rom.lookup c = s.rom.lookup a := by
    simp only [hrom, Rom.lookup_eq_real_canonicalOpcode, hself, hcanonical]
  obtain ⟨hin, -⟩ := State.readByte_eq_some.mp ha
  obtain ⟨e, he⟩ := hrom.record_exists a
  have hrom' := hrom.writeBetween s.offset c
  have hready' := hready.writeBetween s.offset c
  have hc : (s.writeBetween s.offset c).readByte (s.writeBetween s.offset c).offset = some c := by
    rw [State.writeBetween_offset]
    exact State.readByte_writeBetween_same hwf hin c
  have he' : (s.writeBetween s.offset c).rom.record ((s.writeBetween s.offset c).rom.lookup c) = some e := by
    rw [State.writeBetween_rom, hlookup, he]
  by_cases hlen : s.offset + e.length.bytes ≤ s.n
  · obtain ⟨-, hpieces⟩ := Rom.record_kind (hrom ▸ he)
    obtain ⟨x, hx, hstep⟩ := step_decoded hrom hready ha he hlen
    obtain ⟨y, hy, hstep'⟩ := step_decoded hrom' hready' hc he' (by simpa using hlen)
    rw [State.operandBytes_writeBetween_offset, State.writeBetween_rom, State.writeBetween_offset, hlookup] at hstep'
    rw [State.operandBytes_writeBetween_offset, subst_congr_opcode hpieces c a, hx] at hy
    obtain rfl : x = y := Option.some.inj hy
    exact ⟨_, hstep, hstep'⟩
  · have hstep' := step_truncated hready' hc he' (by simpa using hlen)
    simp only [truncInfo, State.request, State.window_writeBetween_offset c hwf hin, State.writeBetween_rom,
      State.writeBetween_offset, State.writeBetween_n, hlookup] at hstep'
    exact ⟨_, step_truncated hready ha he (Nat.lt_of_not_le hlen), hstep'⟩

end Sys2Proof.Machine

/-!
PROOFS. A buffer that changes (20_memory.md section 6, 70_reset_and_hazards.md section 3): during a request, where a changed
window is refused, and between requests, where the next one sees it.
-/

namespace Sys2Proof.Machine

open Sys2Proof.Stated

/-! ### Changes during a request -/

/-- A request whose window does not hold still is turned away by that name (20_memory.md R60). -/
theorem turnedAway_of_unsteady {s : State} (hreq : s.requested = true) (hsteady : s.steady = false) :
    s.turnedAway = some .windowChanged := by
  simp [State.turnedAway, hreq, hsteady]

/-- The indices of the window (70_reset_and_hazards.md R295). -/
theorem State.inWindow_eq_true {s : State} {i : Nat} :
    s.inWindow i = true ↔ s.offset ≤ i ∧ i < min s.n (s.offset + 3) := by
  simp [State.inWindow]

/-- A write that changes no byte of the window leaves the outcome of the request in progress (log 6). -/
theorem step_writeDuring {s : State} {i : Nat} {b : Byte} {o : DecodeOutcome} (h : step s = .next (s.deliver o))
    (hkeep : s.inWindow i = true → Memory.read s.buf i = b)
    (hread : ∀ a, s.inWindow a = true → Memory.read (s.writeBetween i b).buf a = Memory.read s.buf a) :
    step (s.writeDuring i b) = .next ((s.writeDuring i b).deliver o) := by
  obtain ⟨hreq, hsteady, -⟩ := step_next h
  have hready : (s.writeDuring i b).Ready := ⟨by simpa using hreq, by simpa [hsteady, imp_iff_not_or] using hkeep⟩
  refine step_of_same_window h hready (by simp) (by simp) (by simp) fun a hlow hhigh => ?_
  exact (hread a (State.inWindow_eq_true.mpr ⟨hlow, hhigh⟩)).symm

/-- Settles O26: another value in the window or another length makes the window unsteady; the other changes leave every
byte of the window. -/
theorem changedWindowIsRefused : Obligations.ChangedWindowIsRefused := by
  intro s hreq
  refine ⟨fun i b hlow hhigh hne => ?_, fun n hn => ?_, fun i b hi o h => ?_, fun i hwf hlow hhigh o h => ?_,
    fun o h => ?_⟩
  · have hin := State.inWindow_eq_true.mpr ⟨hlow, hhigh⟩
    exact step_of_turnedAway (turnedAway_of_unsteady (by simpa using hreq) (by simp [hin, hne]))
  · exact step_of_turnedAway (turnedAway_of_unsteady hreq (by simp [hn]))
  · have hout : ¬ s.inWindow i = true := by
      rw [State.inWindow_eq_true]
      omega
    refine step_writeDuring h (fun hin => absurd hin hout) fun a ha => s.read_writeBetween_other ?_ b
    rintro rfl
    exact hout ha
  · refine step_writeDuring h (fun _ => rfl) fun a _ => ?_
    rw [State.read_writeBetween hwf (by omega)]
    split
    · next ha => rw [ha]
    · rfl
  · obtain ⟨-, hsteady, -⟩ := step_next h
    have hready : (s.resizeDuring s.n).Ready := ⟨hreq, by simpa using hsteady⟩
    exact step_of_same_window h hready rfl rfl rfl fun a _ hhigh => (Memory.read_below s.buf (by omega)).symm

/-! ### Changes between requests -/

/-- The bytes left are the bytes of the buffer from the offset on. -/
theorem getElem?_bytesLeft (s : State) (k : Nat) : (bytesLeft s)[k]? = s.readByte (s.offset + k) := by
  by_cases hk : s.offset + k < s.n
  · simp [bytesLeft, State.readByte, hk, Nat.lt_sub_iff_add_lt']
  · simp [bytesLeft, State.readByte, hk, Nat.lt_sub_iff_add_lt']

/-- The operand bytes are the bytes of the buffer after the offset. -/
theorem State.getElem?_operandBytes (s : State) {j k : Nat} (h : j < k) :
    (s.operandBytes k)[j]? = some (Memory.read s.buf (s.offset + 1 + j)) := by
  simp [State.operandBytes, h]

/-- Settles O28: the step on the written buffer answers the pseudocode over it, and the opcode, the operands and `present`
of the outcome are read from it. -/
theorem writesBetweenRequestsAreSeen : Obligations.WritesBetweenRequestsAreSeen := by
  intro s i b hwf hi
  have hwritten := State.readByte_writeBetween_same hwf hi b
  refine ⟨hwritten, fun a ha => ?_, fun hrom hready => ?_⟩
  · simp only [State.readByte, State.writeBetween_n, s.read_writeBetween_other ha b]
  have hrom' := hrom.writeBetween i b
  have hready' := hready.writeBetween i b
  obtain ⟨o, hstep, -, href⟩ := stepAnswersTheReferenceDecode (s.writeBetween i b) hrom' hready'
  refine ⟨o, hstep, ?_, ?_, ?_, ?_⟩
  · simpa using href _ fun a _ => (State.read_writeBetween hwf hi b a).symm
  · intro hoffset
    have hop : (s.writeBetween i b).readByte (s.writeBetween i b).offset = some b := by
      rwa [State.writeBetween_offset, ← hoffset]
    obtain ⟨o', hstep', hreported, -⟩ := everyOffsetIsDecoded _ b hrom' hready' hop
    obtain rfl : o = o' := State.deliver_inj (Host.Outcome.next.inj (hstep.symm.trans hstep'))
    exact hreported
  · rintro r k rfl hoperand hk
    obtain ⟨e, text, -, hrecord⟩ := step_next_decoded hrom' hstep rfl
    have hoperands : r.operands = (s.writeBetween i b).operandBytes (e.length.bytes - 1) :=
      congrArg DecodedRecord.operands hrecord
    rw [hoperands, State.operandBytes_length] at hk
    have hindex : (s.writeBetween i b).offset + 1 + k = i := by
      rw [State.writeBetween_offset]
      omega
    rw [hoperands, State.getElem?_operandBytes _ hk, hindex, State.read_writeBetween hwf hi, if_pos rfl]
  · rintro t k rfl hpresent
    obtain ⟨op, e, -, -, -, rfl⟩ := step_next_truncated hstep rfl
    rwa [getElem?_bytesLeft, State.writeBetween_offset, ← hpresent]

end Sys2Proof.Machine

/-!
PROOFS. The reference walk over complete instructions (40_decode_operation.md R124): one `Decoded` for each, to the end of
the buffer.
-/

namespace Sys2Proof.Machine

open Sys2Proof.Stated

/-! ### The bytes the walk has before it -/

/-- The bytes of the buffer a walk starts with are the bytes it is given. -/
theorem bytesLeft_startWalk (s : State) (bs : List Byte) : bytesLeft (s.startWalk bs) = bs := by
  refine List.ext_getElem (by simp [bytesLeft]) fun k hk hk' => ?_
  have hbyte := getElem?_bytesLeft (s.startWalk bs) k
  rw [State.startWalk_offset, Nat.zero_add, State.startWalk_readByte s hk', List.getElem?_eq_getElem hk] at hbyte
  exact Option.some.inj hbyte

/-- An outcome that consumes bytes leaves those after them. -/
theorem bytesLeft_deliver {o : DecodeOutcome} {c : Nat} (hc : o.bytesConsumed = some c) (s : State) :
    bytesLeft (s.deliver o) = (bytesLeft s).drop c := by
  refine List.ext_getElem? fun k => ?_
  rw [getElem?_bytesLeft, List.getElem?_drop, getElem?_bytesLeft, State.deliver_readByte,
    (State.deliver_of_consumed hc s).1, Nat.add_assoc]

/-- Bytes are left exactly where the offset is in the buffer. -/
theorem bytesLeft_length (s : State) : (bytesLeft s).length = s.n - s.offset := by
  simp [bytesLeft]

/-! ### One turn for one instruction -/

/-- The record of an instruction: its length, its opcode and its operand bytes (10_state.md R27). -/
def DecodedRecord.IsOf (r : DecodedRecord) (i : Instr) : Prop :=
  r.length = i.length ∧ r.opcode = i.opcode ∧ r.operands = i.operands

/-- An instruction's bytes are as many as its length. -/
theorem encode_length (i : Instr) : (encode i).length = i.length := rfl

/-- Every instruction has its opcode byte. -/
theorem instr_length_pos (i : Instr) : 0 < i.length := Nat.succ_pos _

/-- A step where an instruction's bytes are the next ones answers that instruction's record and consumes its bytes. -/
theorem step_of_bytesLeft {s : State} {i : Instr} {rest : List Byte} (hrom : s.RomLoaded) (hready : s.Ready)
    (hleft : bytesLeft s = encode i ++ rest) :
    ∃ r : DecodedRecord, step s = .next (s.deliver (.decoded r)) ∧ r.IsOf i ∧ r.bytesConsumed = i.length := by
  have hlen : s.offset + i.length ≤ s.n := by
    have hlength := congrArg List.length hleft
    rw [bytesLeft_length, List.length_append, encode_length] at hlength
    have hpos := instr_length_pos i
    omega
  have hencode : ∀ k (hk : k < (encode i).length), s.readByte (s.offset + k) = some (encode i)[k] := fun k hk => by
    rw [← getElem?_bytesLeft, hleft, List.getElem?_append_left hk, List.getElem?_eq_getElem hk]
  obtain ⟨e, text, -, -, -, -, hstep⟩ := everyInstructionDecodes i s hrom hlen
  exact ⟨_, hstep hready hencode, ⟨rfl, rfl, rfl⟩, rfl⟩

/-- A run of one step more begins with that step. -/
theorem run_succ_of_step {M : Host.Core} {s t : M.State} (h : M.step s = .next t) (k : Nat) :
    M.run (k + 1) s = M.run k t := by
  rw [Host.Core.run, h]

/-! ### The whole walk -/

/-- A walk with the bytes of complete instructions before it, presenting a request while its offset is in the buffer,
answers the record of each instruction in turn and ends at the end of the buffer with no request presented. -/
theorem run_of_bytesLeft {s : State} (is : List Instr) (hrom : s.RomLoaded) (hsteady : s.steady = true)
    (hcursor : s.CursorOk) (hreq : s.requested = true ↔ s.offset < s.n)
    (hleft : bytesLeft s = is.flatMap encode) :
    ∃ (t : State) (rs : List DecodedRecord), Host.Core.run core is.length s = .next t ∧ t.offset = t.n ∧ t.n = s.n ∧
      t.requested = false ∧ t.trace = s.trace ++ rs.map .decoded ∧ List.Forall₂ DecodedRecord.IsOf rs is := by
  induction is generalizing s with
  | nil =>
    have hnone : s.n - s.offset = 0 := by rw [← bytesLeft_length, hleft, List.flatMap_nil, List.length_nil]
    have hend : s.offset = s.n := Nat.le_antisymm hcursor (Nat.le_of_sub_eq_zero hnone)
    have hstop : s.requested = false := by
      rw [← Bool.not_eq_true, hreq, hend]
      exact Nat.lt_irrefl _
    exact ⟨s, [], rfl, hend, rfl, hstop, (List.append_nil _).symm, .nil⟩
  | cons i is ih =>
    rw [List.flatMap_cons] at hleft
    have hlength := congrArg List.length hleft
    rw [bytesLeft_length, List.length_append, encode_length] at hlength
    have hpos := instr_length_pos i
    obtain ⟨r, hstep, hr, hconsumed⟩ := step_of_bytesLeft hrom ⟨hreq.mpr (by omega), hsteady⟩ hleft
    have hc : (DecodeOutcome.decoded r).bytesConsumed = some i.length := congrArg some hconsumed
    obtain ⟨hoffset, hnext⟩ := State.deliver_of_consumed hc s
    have hcursor' : (s.deliver (.decoded r)).CursorOk := by
      rw [State.CursorOk, hoffset, State.deliver_n]
      omega
    have hleft' : bytesLeft (s.deliver (.decoded r)) = is.flatMap encode := by
      rw [bytesLeft_deliver hc, hleft, ← encode_length, List.drop_left]
    obtain ⟨t, rs, hrun, hend, hn, hstop, htrace, hrs⟩ :=
      ih (s := s.deliver (.decoded r)) hrom hsteady hcursor' hnext hleft'
    refine ⟨t, r :: rs, (run_succ_of_step (M := core) hstep _).trans hrun, hend, hn, hstop, ?_, .cons hr hrs⟩
    rw [htrace, State.deliver_trace, List.append_assoc, List.singleton_append, List.map_cons]

/-- Settles O25: the walk starts with all the bytes before it. -/
theorem concatenatedInstructionsWalkToTheEnd : Obligations.ConcatenatedInstructionsWalkToTheEnd := by
  intro s is hrom
  obtain ⟨t, rs, hrun, hend, hn, hstop, htrace, hrs⟩ :=
    run_of_bytesLeft (s := s.startWalk (is.flatMap encode)) is hrom rfl (Nat.zero_le _) (by simp)
      (bytesLeft_startWalk s _)
  rw [State.startWalk_trace, List.nil_append] at htrace
  have hcount := hrs.length_eq
  refine ⟨t, hrun, hend, hn, hstop, by rw [htrace, List.length_map, hcount], fun k hk => ?_⟩
  have hk' : k < rs.length := by omega
  refine ⟨rs[k], ?_, hrs.get hk' hk⟩
  rw [htrace, List.getElem?_map, List.getElem?_eq_getElem hk', Option.map_some]

end Sys2Proof.Machine
